-- ==== Sys2Proof/Word.lean ====
section
/-! DEFINITION. The values of RC_CORE and their widths (00_scope.md R7, 30_encoding.md R70): every value is an unsigned
integer of a stated width, and the block has no signed value (R10, R12). -/

namespace Sys2Proof

/-- A pulse width in microseconds, `W_PW = 16` bits (R7). -/
abbrev PulseWidth := BitVec 16

/-- A time value in ticks, `W_T = 32` bits (R7). -/
abbrev Time := BitVec 32

/-- One 32-bit word of an event stream (R70). -/
abbrev EventWord := BitVec 32

/-- The 32-bit answer of the read port (R37). -/
abbrev ReadValue := BitVec 32

/-- A position in a channel frame, `0..C-1` (R50). -/
abbrev FrameIndex := Fin 8

/-- A logical output channel, `0..P-1` (R50). -/
abbrev LogicalChannel := Fin 12

/-- A physical timer unit: 0, 1, 2 are the source's units A, B, C (R140). -/
abbrev UnitId := Fin 3

/-- A channel slot of a timer unit, `0..NS-1` (R140). -/
abbrev SlotId := Fin 4

/-- A channel frame of `C = 8` pulse widths (R21, R22). -/
abbrev Frame := Vector PulseWidth 8

/-- One pulse width per slot of one timer unit (R24). -/
abbrev UnitRow := Vector PulseWidth 4

/-- One pulse width per logical output channel (R23). -/
abbrev ChannelTable := Vector PulseWidth 12

end Sys2Proof
end

