-- ==== Sys2Proof/Syntax.lean ====
section
/-! DEFINITION. The eight operations of RC_CORE (30_encoding.md R73), one constructor per row of spec/opcode_table.json,
and the names the spec gives the registers of the read port (10_state.md R37). The operands are typed so that no
ill-formed operation can be written: a timer unit is 0, 1 or 2, and a command carries a full frame. What can be
ill-formed on this hardware is an event WORD, and WellFormed.lean says which (log entry 9). -/

namespace Sys2Proof

/-- The operations of the block (R13, R73). -/
inductive Instr where
  /-- EDGE: one measured pulse width and its line identifier (R74, R101). -/
  | edge (line : BitVec 4) (width : PulseWidth)
  /-- CMD: one command message, a full frame (R75, R76, R160). -/
  | cmd (values : Frame)
  /-- TICK: one output tick of one timer unit (R77, R143). -/
  | tick (unit : UnitId)
  /-- SUPV: one pass of the supervisory loop (R78, R130). -/
  | supv
  /-- PUB: one attempt of the periodic publisher, `buf` telling whether the transport has a buffer (R79, R165). -/
  | pub (buf : Bool)
  /-- TIME: the monotonic time source advances by `dt` ticks (R80, R180). -/
  | time (dt : BitVec 28)
  /-- RD: one read of the observation port (R81, R183). -/
  | rd (reg : BitVec 8)
  /-- RST: reset as an event (R82, R185). -/
  | rst
  deriving DecidableEq, Repr

/-- The names of the registers that the read port numbers (R37). -/
inductive RegName where
  | ch (i : FrameIndex)
  | cmd (i : FrameIndex)
  | fsd (l : LogicalChannel)
  | duty (u : UnitId) (s : SlotId)
  | idx
  | status
  | last
  | now
  | timeout
  | params
  | map (l : LogicalChannel)
  deriving DecidableEq, Repr

end Sys2Proof
end

