-- ==== Sys2Proof/Decode.lean ====
section
/-! DEFINITION. The decoder of event streams (30_encoding.md R70 to R87), total on any list of words and rejecting by name,
and after it the encoder, written from the same formats. No value is ever split into bytes and the block has no byte order
(20_memory.md R53), so the decoder reads 32-bit words. -/

namespace Sys2Proof

/-- The `len` bits of a word from bit `lo` up: the field `w[lo+len-1 : lo]` of a format (R71). -/
def fieldAt (w : EventWord) (lo len : Nat) : BitVec len := w.extractLsb' lo len

/-- Why a word is INVALID, by R84's letters. The name is the model's; INVALID has one effect whatever the reason (R85). -/
inductive InvalidReason where
  /-- R84 (a). -/
  | reservedOp
  /-- R84 (b). -/
  | reservedBits
  /-- R84 (c). -/
  | noSuchUnit
  /-- R84 (d). -/
  | wrongCount
  /-- R84 (e). -/
  | truncatedCommand
  deriving DecidableEq, Repr

/-- What a header word alone says (R87): a one-word operation, the header of a command, or nothing valid. -/
inductive Header where
  | single (i : Instr)
  | command
  | invalid (why : InvalidReason)
  deriving DecidableEq, Repr

/-- What the head of an event stream decodes to, with the words left after it. -/
inductive Decoded where
  /-- The stream is empty: no operation has arrived. -/
  | idle
  | op (i : Instr) (rest : List EventWord)
  | invalid (why : InvalidReason) (rest : List EventWord)
  deriving DecidableEq, Repr

/-- A one-word operation if the format's reserved bits are all 0 (R84 b). -/
def singleIfClear (reservedClear : Bool) (i : Instr) : Header :=
  if reservedClear then .single i else .invalid .reservedBits

/-- A TICK header's unit field, `UNIT = 3` being INVALID (R77, R84 c). -/
def decodeTick (w : EventWord) : Header :=
  if fieldAt w 2 26 = 0 then
    if h : (fieldAt w 0 2).toNat < 3 then .single (.tick ⟨(fieldAt w 0 2).toNat, h⟩) else .invalid .noSuchUnit
  else .invalid .reservedBits

/-- A CMD header: `COUNT` must equal `C` (R75, R84 d). -/
def decodeCommandHeader (w : EventWord) : Header :=
  if fieldAt w 4 24 = 0 then
    if fieldAt w 0 4 = 8 then .command else .invalid .wrongCount
  else .invalid .reservedBits

/-- The opcode map of R73, by `OP = w[31:28]`. -/
def decodeHeader (w : EventWord) : Header :=
  match (fieldAt w 28 4).toNat with
  | 0x1 => singleIfClear (fieldAt w 16 8 == 0) (.edge (fieldAt w 24 4) (fieldAt w 0 16))
  | 0x2 => decodeCommandHeader w
  | 0x3 => decodeTick w
  | 0x4 => singleIfClear (fieldAt w 0 28 == 0) .supv
  | 0x5 => singleIfClear (fieldAt w 1 27 == 0) (.pub (w.getLsbD 0))
  | 0x6 => .single (.time (fieldAt w 0 28))
  | 0x7 => singleIfClear (fieldAt w 8 20 == 0) (.rd (fieldAt w 0 8))
  | 0xF => singleIfClear (fieldAt w 0 28 == 0) .rst
  | _ => .invalid .reservedOp

/-- The frame of the four data words of a CMD: the value with the lower index is in the low half (R76). -/
def frameOfWords (d0 d1 d2 d3 : EventWord) : Frame :=
  #v[fieldAt d0 0 16, fieldAt d0 16 16, fieldAt d1 0 16, fieldAt d1 16 16,
     fieldAt d2 0 16, fieldAt d2 16 16, fieldAt d3 0 16, fieldAt d3 16 16]

/-- The data words of a command. A stream that ends inside them makes the CMD INVALID and is consumed whole (R86). -/
def decodeCommandData : List EventWord → Decoded
  | d0 :: d1 :: d2 :: d3 :: rest => .op (.cmd (frameOfWords d0 d1 d2 d3)) rest
  | _ => .invalid .truncatedCommand []

/-- The decoder: reads one operation, or one INVALID word, from the head of a stream (R70, R85, R87). -/
def decode : List EventWord → Decoded
  | [] => .idle
  | w :: rest =>
    match decodeHeader w with
    | .single i => .op i rest
    | .command => decodeCommandData rest
    | .invalid why => .invalid why rest

/-- How many words an operation is long: the header word alone decides (R87). -/
def wordsFrom (header : EventWord) : Nat :=
  match decodeHeader header with
  | .command => 5
  | _ => 1

/-- The header word of an operation (R74, R75, R77 to R82). -/
def encodeHeader : Instr → EventWord
  | .edge line width => 0x1#4 ++ line ++ 0x00#8 ++ width
  | .cmd _ => 0x2#4 ++ 0#24 ++ 0x8#4
  | .tick unit => 0x3#4 ++ 0#26 ++ BitVec.ofNat 2 unit.val
  | .supv => 0x4#4 ++ 0#28
  | .pub buf => 0x5#4 ++ 0#27 ++ BitVec.ofBool buf
  | .time dt => 0x6#4 ++ dt
  | .rd reg => 0x7#4 ++ 0#20 ++ reg
  | .rst => 0xF#4 ++ 0#28

/-- The data words that follow the header: four for CMD, the higher index in the high half (R76), none for the others. -/
def encodeData : Instr → List EventWord
  | .cmd v => [v[1] ++ v[0], v[3] ++ v[2], v[5] ++ v[4], v[7] ++ v[6]]
  | .edge _ _ | .tick _ | .supv | .pub _ | .time _ | .rd _ | .rst => []

/-- The encoder: the event words of an operation. -/
def encode (i : Instr) : List EventWord := encodeHeader i :: encodeData i

/-- The words of an opcode-table instruction given as one number: bit 0 is the least significant bit of the first word,
later words' bits count on from it, and bits from `nbits` up are 0 (log entry 10). The header says how many words there
are. -/
def tableWords (nbits w : Nat) : List EventWord :=
  let word (k : Nat) : EventWord := BitVec.ofNat 32 (w % 2 ^ nbits / 2 ^ (32 * k))
  [word 0, word 1, word 2, word 3, word 4].take (wordsFrom (word 0))

/-- What the decoder reads from an instruction whose bits, numbered as spec/opcode_table.json numbers them, are `w`. -/
def decodeTableWord (nbits w : Nat) : Option Instr :=
  match decode (tableWords nbits w) with
  | .op i _ => some i
  | .idle => none
  | .invalid _ _ => none

end Sys2Proof
end

