-- ==== Sys2Proof/Config.lean ====
section
/-! DEFINITION. The implementation parameters of 00_scope.md R5 to R8: the numbers the spec fixes, and the OPEN parameters
as opaque constants, of which nothing can be proved but that they have a value (log entries 1, 2 and 12). -/

namespace Sys2Proof.Config

/-- `C`, the frame length and the modulus of the decode cursor (R5). -/
def frameLen : Nat := 8

/-- `NU`, the number of physical timer units (R5). -/
def numUnits : Nat := 3

/-- `NS`, the number of channel slots of a unit (R5). -/
def numSlots : Nat := 4

/-- `P = NU * NS`, the number of logical output channels and of physical slots (R5). -/
def numOutputs : Nat := numUnits * numSlots

/-- `W_MIN`, the lower end of the valid width band in microseconds, inclusive (R6). -/
def wMin : Nat := 500

/-- `W_MAX`, the upper end of the valid width band in microseconds, inclusive (R6). -/
def wMax : Nat := 2500

/-- Which array the mixer reads while LIVE (R35): `cmd` shows as 0 on the read port, `dec` as 1. -/
inductive LiveSrc where
  | cmd
  | dec
  deriving DecidableEq, Repr, Inhabited

/-- The OPEN parameter `TIMEOUT` of this implementation (R8, R34); State.reset starts its field there.
DESIGN CHOICE (log entry 1): no value is chosen. -/
opaque timeout : Time

/-- The OPEN parameter `FSD`, the failsafe defaults of this implementation (R8, R23). DESIGN CHOICE (log entry 1). -/
opaque fsd : ChannelTable

/-- The OPEN parameter `LIVE_SRC` of this implementation (R8, R35). DESIGN CHOICE (log entry 1). -/
opaque liveSrc : LiveSrc

/-- The value of the time source at power-on: any 32-bit value, and "the model must not assume 0" (R31).
DESIGN CHOICE (log entry 2). -/
opaque powerOnNow : Time

/-- The OPEN parameter `TIME_TICK`, the duration of one tick, "that no rule depends on" (R8): nothing reads it
(log entry 12). -/
opaque timeTick : Nat

end Sys2Proof.Config
end

