-- ==== Sys2Proof/Machine/State.lean ====
section
/-! DEFINITION. The state of RC_CORE (10_state.md R20), the emissions of its operations (00_scope.md R13), the reasons a
step can stop, and the state after reset (70_reset_and_hazards.md R230). -/

namespace Sys2Proof.Machine

/-- The emissions of R13: what the block's environment sees of an operation. -/
inductive Emission where
  /-- Apply duty value `v` to slot `s` of unit `u`. -/
  | duty (u : UnitId) (s : SlotId) (v : PulseWidth)
  /-- Publish the frame `f`. -/
  | pub (f : Frame)
  /-- Drive the liveness signal to `b`. -/
  | status (b : Bool)
  /-- Answer a read with `v`. -/
  | rdata (v : ReadValue)
  deriving DecidableEq, Repr

/-- The machine. The first eight fields are the mutable elements of R20, `now` is the environment's (R31), the next
three are the configuration (R23, R34, R35), and the last three are the model's own: the words the environment has yet
to deliver (R70, log entry 3), the emissions made so far (R13, log entry 4), and the refusal mark of R85 (log entry 5).
MAP is hardwired (R36) and is a constant of Operands.lean (log entry 11). -/
structure State where
  /-- CH, the decoded channel frame (R21). -/
  ch : Frame
  /-- CMD, the commanded channel frame (R22). -/
  cmd : Frame
  /-- IDX, the decode cursor (R28). -/
  idx : FrameIndex
  /-- LAST, the last-update timestamp (R29). -/
  last : Time
  /-- LAST_V, the timestamp valid bit (R30). -/
  lastV : Bool
  /-- STATUS_LIVE, the latched liveness signal (R32). -/
  statusLive : Bool
  /-- DUTY, the applied-duty output registers (R24). -/
  duty : Vector UnitRow 3
  /-- DUTY_V, the applied flags (R25). -/
  dutyV : Vector Bool 3
  /-- NOW, the monotonic time (R31). -/
  now : Time
  /-- FSD, the failsafe override register file (R23). -/
  fsd : ChannelTable
  /-- TIMEOUT (R34). -/
  timeout : Time
  /-- LIVE_SRC (R35). -/
  liveSrc : Config.LiveSrc
  /-- The event words not yet consumed, the next one first (R70). -/
  stream : List EventWord
  /-- The emissions of the run so far, the oldest first (R11, R13). -/
  emitted : List Emission
  /-- Whether the run has met an INVALID word (R85, R205). -/
  refusalMark : Bool
  deriving DecidableEq, Repr

/-- The reasons a step can stop with a fault. There are none: "No operation raises an exception" (60_exceptions.md R200),
so the type has no constructor, and that no step faults holds by its type. Safe: nothing is cut short. -/
inductive Fault where
  deriving DecidableEq, Repr

/-- The reasons a step can be refused. -/
inductive Refusal where
  /-- Raised by an arm of `exec` whose instruction has no meaning yet; no arm of this model is such. Safe. -/
  | notModelled (mnemonic : String)
  deriving DecidableEq, Repr

/-- The machine right after power-on reset (R230). Every mutable element is at the value R230 gives; NOW is arbitrary
(log entry 2) and the configuration is what the implementation fixed (log entry 1); no operation has arrived yet, none has
emitted anything, and the run is unmarked (log entries 3, 4, 5). -/
def State.reset : State where
  ch := Vector.replicate 8 0
  cmd := Vector.replicate 8 0
  idx := 0
  last := 0
  lastV := false
  statusLive := false
  duty := Vector.replicate 3 (Vector.replicate 4 0)
  dutyV := Vector.replicate 3 false
  now := Config.powerOnNow
  fsd := Config.fsd
  timeout := Config.timeout
  liveSrc := Config.liveSrc
  stream := []
  emitted := []
  refusalMark := false

end Sys2Proof.Machine
end

