-- ==== Sys2Proof/Machine/Flags.lean ====
section
/-! DEFINITION. The decisions of the block: the width band (00_scope.md R6, R11), the failsafe comparator and the gate
(41_failsafe_gate.md R120, R122), and the STATUS word (10_state.md R38). The block stores no other flag and sets none as a
side effect (R33). -/

namespace Sys2Proof.Machine

/-- `in_band(w)`: `W_MIN <= w && w <= W_MAX`, both ends inclusive (R6, R11). -/
def inBand (w : PulseWidth) : Bool := decide (Config.wMin ≤ w.toNat ∧ w.toNat ≤ Config.wMax)

/-- The elapsed time the comparator sees: `(now - last) mod 2^32` (R12, R120). -/
def elapsedBetween (now last : Time) : Time := now - last

/-- `is_live`: LIVE iff the elapsed time is at most the timeout, compared as natural numbers (R120). -/
def isLive (now last timeout : Time) : Bool := decide ((elapsedBetween now last).toNat ≤ timeout.toNat)

/-- GATE: a timestamp has been taken since reset, and it is fresh (R122). Not stored (R33). -/
def gate (s : State) : Bool := s.lastV && isLive s.now s.last s.timeout

/-- The LIVE_SRC bit as the read port shows it: 0 = CMD, 1 = DEC (R35, R38). -/
def liveSrcBit (src : Config.LiveSrc) : Bool :=
  match src with
  | .cmd => false
  | .dec => true

/-- STATUS, assembled at the moment of the read, bit 31 first (R38). -/
def statusWord (s : State) : ReadValue :=
  0#25 ++ BitVec.ofBool (gate s) ++ BitVec.ofBool (liveSrcBit s.liveSrc) ++ BitVec.ofBool s.dutyV[2] ++
    BitVec.ofBool s.dutyV[1] ++ BitVec.ofBool s.dutyV[0] ++ BitVec.ofBool s.lastV ++ BitVec.ofBool s.statusLive

end Sys2Proof.Machine
end

