-- ==== Sys2Proof/Machine/Operands.lean ====
section
/-! DEFINITION. The operand forms of the block (44_environment_ops.md R188): the hardwired channel map
(42_output_mixer.md R141), the mixer's source selection (R142) and the read port (10_state.md R37). -/

namespace Sys2Proof.Machine

/-- `MAP_INV[u][s]`, the logical channel that feeds slot `s` of unit `u` (R141); rows are units A, B, C. -/
def mapInvTable : Vector (Vector LogicalChannel 4) 3 :=
  #v[#v[6, 7, 5, 4],
     #v[8, 9, 10, 11],
     #v[0, 1, 2, 3]]

/-- `MAP_INV[u][s]` (R141). -/
def mapInv (u : UnitId) (s : SlotId) : LogicalChannel := mapInvTable[u][s]

/-- `MAP[l] = (u, s)`, the same table read the other way (R141). -/
def mapTable : Vector (UnitId × SlotId) 12 :=
  #v[(2, 0), (2, 1), (2, 2), (2, 3), (0, 3), (0, 2), (0, 0), (0, 1), (1, 0), (1, 1), (1, 2), (1, 3)]

/-- `LIVEARR`, the array that LIVE_SRC selects (R142). -/
def liveArray (s : State) : Frame :=
  match s.liveSrc with
  | .cmd => s.cmd
  | .dec => s.ch

/-- `SRC(l, g)`: the live value when the gate is true and the channel has one, that is `l < C`, else the failsafe default
(R142). The lookup in the live array gives none for `l >= C`, whose channels "have no live value". -/
def sourceValue (s : State) (g : Bool) (l : LogicalChannel) : PulseWidth :=
  if g then (liveArray s)[l.val]?.getD s.fsd[l] else s.fsd[l]

/-- The four values of one unit, slots 0 to 3, for one value of the gate (R143, R145). -/
def sourceRow (s : State) (g : Bool) (u : UnitId) : UnitRow :=
  #v[sourceValue s g (mapInv u 0), sourceValue s g (mapInv u 1), sourceValue s g (mapInv u 2), sourceValue s g (mapInv u 3)]

/-- The register numbers of the read port (R37). -/
def regNumber : RegName → BitVec 8
  | .ch i => BitVec.ofNat 8 (0x00 + i.val)
  | .cmd i => BitVec.ofNat 8 (0x10 + i.val)
  | .fsd l => BitVec.ofNat 8 (0x20 + l.val)
  | .duty u s => BitVec.ofNat 8 (0x30 + 4 * u.val + s.val)
  | .idx => 0x40
  | .status => 0x41
  | .last => 0x42
  | .now => 0x43
  | .timeout => 0x44
  | .params => 0x45
  | .map l => BitVec.ofNat 8 (0x50 + l.val)

/-- The `n`-th of the twelve slots in unit order: number `4*u + s` is slot `s` of unit `u` (R37). -/
def slotOfNumber (n : Fin 12) : RegName :=
  .duty ⟨n.val / 4, by omega⟩ ⟨n.val % 4, by omega⟩

/-- The register that a number of the read port names; none for a reserved number (R37). -/
def regOfNumber (r : BitVec 8) : Option RegName :=
  let n := r.toNat
  if h : n < 8 then some (.ch ⟨n, h⟩)
  else if h : 0x10 ≤ n ∧ n < 0x18 then some (.cmd ⟨n - 0x10, by omega⟩)
  else if h : 0x20 ≤ n ∧ n < 0x2C then some (.fsd ⟨n - 0x20, by omega⟩)
  else if h : 0x30 ≤ n ∧ n < 0x3C then some (slotOfNumber ⟨n - 0x30, by omega⟩)
  else if n = 0x40 then some .idx
  else if n = 0x41 then some .status
  else if n = 0x42 then some .last
  else if n = 0x43 then some .now
  else if n = 0x44 then some .timeout
  else if n = 0x45 then some .params
  else if h : 0x50 ≤ n ∧ n < 0x5C then some (.map ⟨n - 0x50, by omega⟩)
  else none

/-- PARAMS, `{0x00, NU[7:0], P[7:0], C[7:0]}` (R37). -/
def paramsWord : ReadValue :=
  0x00#8 ++ BitVec.ofNat 8 Config.numUnits ++ BitVec.ofNat 8 Config.numOutputs ++ BitVec.ofNat 8 Config.frameLen

/-- `MAP[l]` as the read port packs it, `{24 zero bits, u[3:0], s[3:0]}` (R37). -/
def mapWord (l : LogicalChannel) : ReadValue :=
  0#24 ++ BitVec.ofNat 4 mapTable[l].1.val ++ BitVec.ofNat 4 mapTable[l].2.val

/-- The value of a named register, zero-extended to 32 bits (R37). -/
def regValue (s : State) : RegName → ReadValue
  | .ch i => s.ch[i].setWidth 32
  | .cmd i => s.cmd[i].setWidth 32
  | .fsd l => s.fsd[l].setWidth 32
  | .duty u k => s.duty[u][k].setWidth 32
  | .idx => BitVec.ofNat 32 s.idx.val
  | .status => statusWord s
  | .last => s.last
  | .now => s.now
  | .timeout => s.timeout
  | .params => paramsWord
  | .map l => mapWord l

/-- The read port: the register that the number names, or 0 for a reserved number (R37, R183). -/
def readPort (s : State) (r : BitVec 8) : ReadValue :=
  match regOfNumber r with
  | some name => regValue s name
  | none => 0

end Sys2Proof.Machine
end

