-- ==== Sys2Proof/Machine/Ops.lean ====
section
/-! DEFINITION. The named operations over the state that the meanings are made of. The block has no byte-addressed memory
(20_memory.md R51), takes no exception and returns from none (60_exceptions.md R200, R211, R212), so there is no memory
operation and no exception entry here; what the block has in an exception's place is the absorbing of an INVALID word. -/

namespace Sys2Proof.Machine

/-- Append emissions to the run's output, in order (00_scope.md R11, R13). -/
def emit (es : List Emission) (s : State) : State := { s with emitted := s.emitted ++ es }

/-- Leave `rest` as the words still to come: the head of the stream has been consumed (30_encoding.md R70). -/
def consume (rest : List EventWord) (s : State) : State := { s with stream := rest }

/-- An INVALID word: consumed, with no effect on the block and no emission, and the run marked (R85, R205). -/
def absorbInvalid (rest : List EventWord) (s : State) : State := { s with stream := rest, refusalMark := true }

/-- The liveness refresh of EDGE and CMD: `LAST <- NOW`, `LAST_V <- 1` (R106, R162). -/
def refreshLiveness (s : State) : State := { s with last := s.now, lastV := true }

/-- The cursor after an in-band store: `(IDX + 1) mod C` (R103). -/
def nextCursor (i : FrameIndex) : FrameIndex := ⟨(i.val + 1) % 8, Nat.mod_lt _ (by decide)⟩

/-- Cursor-indexed store with post-increment (R102, R103, R188 a). -/
def storeAtCursor (width : PulseWidth) (s : State) : State :=
  { s with ch := s.ch.set s.idx width, idx := nextCursor s.idx }

/-- The resync of an out-of-band edge: `IDX <- 0`, no store (R104). -/
def resyncCursor (s : State) : State := { s with idx := 0 }

/-- Whole-array store of a commanded frame (R161, R188 b). -/
def storeCommand (v : Frame) (s : State) : State := { s with cmd := v }

/-- Apply the four duties of unit `u` and mark the unit as applied (R143). -/
def applyRow (u : UnitId) (row : UnitRow) (s : State) : State :=
  { s with duty := s.duty.set u row, dutyV := s.dutyV.set u true }

/-- The four duty emissions of a tick, slot order 0 to 3 (R143). -/
def dutyEmissions (u : UnitId) (row : UnitRow) : List Emission :=
  [.duty u 0 row[0], .duty u 1 row[1], .duty u 2 row[2], .duty u 3 row[3]]

/-- `STATUS_LIVE <- g` (R130). -/
def latchStatus (g : Bool) (s : State) : State := { s with statusLive := g }

/-- `NOW <- (NOW + zext_32(DT)) mod 2^32` (R180). -/
def advanceTime (dt : BitVec 28) (s : State) : State := { s with now := s.now + dt.setWidth 32 }

/-- The writes of RST: every mutable element to its reset value, and nothing else (R185, R230). -/
def clearBlock (s : State) : State :=
  { s with
    ch := Vector.replicate 8 0
    cmd := Vector.replicate 8 0
    idx := 0
    last := 0
    lastV := false
    statusLive := false
    duty := Vector.replicate 3 (Vector.replicate 4 0)
    dutyV := Vector.replicate 3 false }

end Sys2Proof.Machine
end

