-- ==== Sys2Proof/Machine/Environment.lean ====
section
/-! DEFINITION. The environment's operations (44_environment_ops.md): the meanings of TIME, RD and RST. -/

namespace Sys2Proof.Machine

/-- TIME (R180): the monotonic time source advances, modulo 2^32. -/
def execTime (dt : BitVec 28) (s : State) : Host.Outcome State Fault Refusal :=
  .next (advanceTime dt s)

/-- RD (R183): answer with the register the number names; no state changes. -/
def execRd (reg : BitVec 8) (s : State) : Host.Outcome State Fault Refusal :=
  .next (emit [.rdata (readPort s reg)] s)

/-- RST (R185): every mutable element to its reset value; NOW and the configuration stay; nothing is emitted. -/
def execRst (s : State) : Host.Outcome State Fault Refusal :=
  .next (clearBlock s)

end Sys2Proof.Machine
end

