-- ==== Sys2Proof/Machine/FailsafeGate.lean ====
section
/-! DEFINITION. FailsafeGate (41_failsafe_gate.md): the meaning of SUPV. The comparator and the gate are in Flags.lean. -/

namespace Sys2Proof.Machine

/-- SUPV (R130): latch the gate of the state before the operation and drive the status signal to it. -/
def execSupv (s : State) : Host.Outcome State Fault Refusal :=
  .next (emit [.status (gate s)] (latchStatus (gate s) s))

end Sys2Proof.Machine
end

