-- ==== Sys2Proof/Machine/Feeds.lean ====
section
/-! DEFINITION. The command feed and the decoded feed (43_feeds.md): the meanings of CMD and PUB. -/

namespace Sys2Proof.Machine

/-- CMD (R160): the whole frame is stored in one transition and liveness refreshed; no value is checked (R163). -/
def execCmd (values : Frame) (s : State) : Host.Outcome State Fault Refusal :=
  .next (refreshLiveness (storeCommand values s))

/-- PUB (R165): with a buffer, emit the decoded frame as it stands; without one, nothing (R167). -/
def execPub (buf : Bool) (s : State) : Host.Outcome State Fault Refusal :=
  .next (if buf then emit [.pub s.ch] s else s)

end Sys2Proof.Machine
end

