-- ==== Sys2Proof/Machine/OutputMixer.lean ====
section
/-! DEFINITION. OutputMixer (42_output_mixer.md): the meaning of TICK. The map and the source selection are in Operands.lean. -/

namespace Sys2Proof.Machine

/-- TICK (R143): the gate is evaluated once, on the state before the operation, and decides all four slots of the unit. -/
def execTick (unit : UnitId) (s : State) : Host.Outcome State Fault Refusal :=
  let row := sourceRow s (gate s) unit
  .next (emit (dutyEmissions unit row) (applyRow unit row s))

end Sys2Proof.Machine
end

