-- ==== Sys2Proof/Machine/PulseDecoder.lean ====
section
/-! DEFINITION. PulseDecoder (40_pulse_decoder.md): the meaning of EDGE. -/

namespace Sys2Proof.Machine

/-- EDGE (R101): an in-band width is stored at the cursor, which advances; any other resyncs the cursor; both refresh the
liveness timestamp. `LINE` is carried and ignored (R107). -/
def execEdge (_line : BitVec 4) (width : PulseWidth) (s : State) : Host.Outcome State Fault Refusal :=
  .next (refreshLiveness (if inBand width then storeAtCursor width s else resyncCursor s))

end Sys2Proof.Machine
end

