-- ==== Sys2Proof/Machine/Dispatch.lean ====
section
/-! DEFINITION. The dispatch: one arm per operation, each one direct call of its meaning. -/

namespace Sys2Proof.Machine

def exec (i : Instr) (s : State) : Host.Outcome State Fault Refusal :=
  match i with
  | .edge line width => Sys2Proof.Machine.execEdge line width s
  | .cmd values => Sys2Proof.Machine.execCmd values s
  | .tick unit => Sys2Proof.Machine.execTick unit s
  | .supv => Sys2Proof.Machine.execSupv s
  | .pub buf => Sys2Proof.Machine.execPub buf s
  | .time dt => Sys2Proof.Machine.execTime dt s
  | .rd reg => Sys2Proof.Machine.execRd reg s
  | .rst => Sys2Proof.Machine.execRst s

end Sys2Proof.Machine
end

