-- ==== Sys2Proof/Machine/Step.lean ====
section
/-! DEFINITION. One step of the machine: take the next operation from the event stream and execute it (00_scope.md R13,
30_encoding.md R70). -/

namespace Sys2Proof.Machine

/-- One step. With no word pending the block is at rest and nothing changes (10_state.md R41, 70 R232; log entry 3); an
operation is consumed and executed as one indivisible transition (R59); an INVALID word is absorbed (R85). -/
def step (s : State) : Host.Outcome State Fault Refusal :=
  match decode s.stream with
  | .idle => .next s
  | .op i rest => exec i (consume rest s)
  | .invalid _ rest => .next (absorbInvalid rest s)

/-- `s` with the given instruction as the next thing the environment delivers, ahead of the words already pending. -/
def State.withFetchWord (s : State) (nbits w : Nat) : State :=
  { s with stream := tableWords nbits w ++ s.stream }

end Sys2Proof.Machine
end

