-- ==== Sys2Proof/Machine/Trace.lean ====
section
/-! DEFINITION. The trace lines of 30_encoding.md R88 and the pseudo-operations of R89, as data: each line expands to the
operations the spec gives for it, and a trace assembles to an event stream. The text syntax (comments, decimal and
hexadecimal numerals) is the spec's notation for these lines and is not parsed. -/

namespace Sys2Proof.Machine

/-- One line of a trace. -/
inductive TraceLine where
  /-- `EDGE width` (line 0). -/
  | edge (width : PulseWidth)
  /-- `EDGE line, width`. -/
  | edgeOn (line : BitVec 4) (width : PulseWidth)
  /-- `CMD v0, ..., v7`. -/
  | cmd (values : Frame)
  /-- `TICK A`, `TICK B`, `TICK C`. -/
  | tick (unit : UnitId)
  /-- `SUPV`. -/
  | supv
  /-- `PUB`: a buffer is available. -/
  | pub
  /-- `PUB.SKIP`: none is. -/
  | pubSkip
  /-- `TIME dt`. -/
  | time (dt : BitVec 28)
  /-- `RD reg`, by number. -/
  | rd (reg : BitVec 8)
  /-- `RD name`, by a name of R37. -/
  | rdName (name : RegName)
  /-- `RST`. -/
  | rst
  /-- `FRAME w0, ..., w7`. -/
  | frame (widths : Frame)
  /-- `SYNC`. -/
  | sync
  /-- `WAIT dt`, for any 32-bit `dt`. -/
  | wait (dt : Time)
  /-- `TICKALL`. -/
  | tickAll
  deriving DecidableEq, Repr

/-- The longest advance one TIME word can hold (R80). -/
def maxAdvance : Nat := 0x0FFFFFFF

/-- `WAIT dt`: whole TIME words, then the remainder, which is left out when it is 0 and `dt > 0` (R89). -/
def waitOps (dt : Time) : List Instr :=
  List.replicate (dt.toNat / maxAdvance) (.time (BitVec.ofNat 28 maxAdvance)) ++
    (if dt.toNat % maxAdvance = 0 ∧ 0 < dt.toNat then [] else [.time (BitVec.ofNat 28 (dt.toNat % maxAdvance))])

/-- The operations of one line (R88, R89). -/
def expandLine : TraceLine → List Instr
  | .edge width => [.edge 0 width]
  | .edgeOn line width => [.edge line width]
  | .cmd values => [.cmd values]
  | .tick unit => [.tick unit]
  | .supv => [.supv]
  | .pub => [.pub true]
  | .pubSkip => [.pub false]
  | .time dt => [.time dt]
  | .rd reg => [.rd reg]
  | .rdName name => [.rd (regNumber name)]
  | .rst => [.rst]
  | .frame widths => widths.toList.map (.edge 0)
  | .sync => [.edge 0 3000]
  | .wait dt => waitOps dt
  | .tickAll => [.tick 0, .tick 1, .tick 2]

/-- The event stream of a trace (R70, R88). -/
def assemble (lines : List TraceLine) : List EventWord := ((lines.flatMap expandLine).map encode).flatten

end Sys2Proof.Machine
end

