-- ==== Sys2Proof/Safety.lean ====
section
/-! DEFINITION. The terms that claims about the block use: sequences of operations, the agents and their rights
(60_exceptions.md R213), and the invariants (10_state.md R42). Nothing here is part of the machine. -/

namespace Sys2Proof.Machine

/-! ### Sequences of operations -/

/-- Execute operations one wholly after the other (20_memory.md R59), stopping at the first that gives no next state. -/
def runOps : List Instr → State → Host.Outcome State Fault Refusal
  | [], s => .next s
  | i :: is, s =>
    match exec i s with
    | .next t => runOps is t
    | .fault r => .fault r
    | .refused r => .refused r

/-- Take `n` steps, stopping at the first that gives no next state. -/
def runSteps : Nat → State → Host.Outcome State Fault Refusal
  | 0, s => .next s
  | n + 1, s =>
    match step s with
    | .next t => runSteps n t
    | .fault r => .fault r
    | .refused r => .refused r

/-- `E` of 41_failsafe_gate.md R123: the sum of the DT of all TIME operations of a sequence. -/
def elapsedTicks : List Instr → Nat
  | [] => 0
  | .time dt :: is => dt.toNat + elapsedTicks is
  | _ :: is => elapsedTicks is

/-- EDGE and CMD, the operations that refresh liveness (R106, R162). -/
def isInput : Instr → Bool
  | .edge _ _ | .cmd _ => true
  | .tick _ | .supv | .pub _ | .time _ | .rd _ | .rst => false

/-- TICK, SUPV, PUB and RD, the operations that cannot change the gate (R123 f). -/
def isQuiet : Instr → Bool
  | .tick _ | .supv | .pub _ | .rd _ => true
  | .edge _ _ | .cmd _ | .time _ | .rst => false

/-- Whether an emission applies a duty value to a slot (R13). -/
def isDuty : Emission → Bool
  | .duty _ _ _ => true
  | .pub _ | .status _ | .rdata _ => false

/-! ### Agents and rights -/

/-- The agents of R213. -/
inductive Agent where
  | captureSource
  | commandReceiver
  | outputTimer (u : UnitId)
  | publisher
  | supervisor
  | timeSource
  | observer
  | reset
  deriving DecidableEq, Repr

/-- The column "Issues" of R213, read from the operation to its agent. -/
def agentOf : Instr → Agent
  | .edge _ _ => .captureSource
  | .cmd _ => .commandReceiver
  | .tick u => .outputTimer u
  | .pub _ => .publisher
  | .supv => .supervisor
  | .time _ => .timeSource
  | .rd _ => .observer
  | .rst => .reset

/-- The elements of the state that R213 names; DUTY and DUTY_V by unit. -/
inductive Element where
  | ch
  | cmd
  | idx
  | last
  | lastV
  | statusLive
  | duty (u : UnitId)
  | dutyV (u : UnitId)
  | now
  | fsd
  | timeout
  | liveSrc
  deriving DecidableEq, Repr

/-- Two states have the same value of an element. -/
def agreeOn (s t : State) : Element → Prop
  | .ch => s.ch = t.ch
  | .cmd => s.cmd = t.cmd
  | .idx => s.idx = t.idx
  | .last => s.last = t.last
  | .lastV => s.lastV = t.lastV
  | .statusLive => s.statusLive = t.statusLive
  | .duty u => s.duty[u] = t.duty[u]
  | .dutyV u => s.dutyV[u] = t.dutyV[u]
  | .now => s.now = t.now
  | .fsd => s.fsd = t.fsd
  | .timeout => s.timeout = t.timeout
  | .liveSrc => s.liveSrc = t.liveSrc

/-- The elements that no operation writes (R20, R64). -/
def isConfiguration : Element → Bool
  | .fsd | .timeout | .liveSrc => true
  | .ch | .cmd | .idx | .last | .lastV | .statusLive | .duty _ | .dutyV _ | .now => false

/-- The column "May write" of R213. -/
def mayWrite (a : Agent) (e : Element) : Bool :=
  match a with
  | .captureSource => e ∈ [.ch, .idx, .last, .lastV]
  | .commandReceiver => e ∈ [.cmd, .last, .lastV]
  | .outputTimer u => e ∈ [.duty u, .dutyV u]
  | .publisher => false
  | .supervisor => e = .statusLive
  | .timeSource => e = .now
  | .observer => false
  | .reset => !isConfiguration e && e ≠ .now

/-- The live array the mixer reads under a value of LIVE_SRC: the "CH or CMD" of R213. -/
def liveElement : Config.LiveSrc → Element
  | .cmd => .cmd
  | .dec => .ch

/-- The column "May read" of R213, for a configuration's LIVE_SRC (MAP is a constant and needs no entry). -/
def mayRead (src : Config.LiveSrc) (a : Agent) (e : Element) : Bool :=
  match a with
  | .captureSource => e ∈ [.now, .idx]
  | .commandReceiver => e = .now
  | .outputTimer _ => e ∈ [.fsd, .last, .lastV, .now, .timeout, .liveSrc, liveElement src]
  | .publisher => e = .ch
  | .supervisor => e ∈ [.last, .lastV, .now, .timeout]
  | .timeSource => e = .now
  | .observer => true
  | .reset => false

/-! ### Invariants -/

/-- A value the decoder can have stored, or an entry it has not written yet (R21). -/
def DecodedOrZero (v : PulseWidth) : Prop := v = 0 ∨ (500 ≤ v.toNat ∧ v.toNat ≤ 2500)

/-- The invariants (b), (c) and (d) of R42; (a) holds by the type of IDX. -/
structure BlockInv (s : State) : Prop where
  /-- R42 (b). -/
  decoded : ∀ k : FrameIndex, DecodedOrZero s.ch[k]
  /-- R42 (c). -/
  untouched : s.lastV = false →
    s.last = 0 ∧ (∀ k : FrameIndex, s.ch[k] = 0) ∧ (∀ k : FrameIndex, s.cmd[k] = 0) ∧ s.idx = 0
  /-- R42 (d). -/
  unapplied : ∀ u : UnitId, s.dutyV[u] = false → ∀ k : SlotId, s.duty[u][k] = 0

/-- What the outputs can show, over all operations: the model's inference from R130, R142, R144 and R249. -/
structure OutputInv (s : State) : Prop where
  /-- CH holds only decoded values (R21). -/
  decoded : ∀ k : FrameIndex, DecodedOrZero s.ch[k]
  /-- The status signal is never LIVE before an EDGE or a CMD (R122, R130). -/
  statusNeedsInput : s.statusLive = true → s.lastV = true
  /-- A slot whose channel has no live value carries its failsafe default once applied (R142). -/
  unusedChannel : ∀ (u : UnitId) (k : SlotId),
    s.dutyV[u] = true → Config.frameLen ≤ (mapInv u k).val → s.duty[u][k] = s.fsd[mapInv u k]
  /-- With `LIVE_SRC = DEC` every applied duty is 0, a decoded width, or the slot's default (R249). -/
  decodedRange : s.liveSrc = .dec → ∀ (u : UnitId) (k : SlotId),
    s.dutyV[u] = true → DecodedOrZero s.duty[u][k] ∨ s.duty[u][k] = s.fsd[mapInv u k]

end Sys2Proof.Machine
end

