-- ==== Sys2Proof/WellFormed.lean ====
section
/-! DEFINITION. Which event words stand for no operation: the INVALID set of 30_encoding.md R84, written from R84's own
list and from nothing of the decoder, so that the decoder can be compared with it. An operation as syntax is well-formed
by its type (Syntax.lean); well-formedness is a property of words on this hardware. -/

namespace Sys2Proof

/-- `w[hi:lo]`, the bit slice of R10, as a number. -/
def slice (w : EventWord) (hi lo : Nat) : Nat := w.toNat / 2 ^ lo % 2 ^ (hi + 1 - lo)

/-- The one valid CMD header of this hardware, `{0x2, 24 zero bits, C}` (R75). -/
def validCmdHeader : EventWord := 0x20000008#32

/-- R84 (a): the operation code is `0x0` or in `0x8..0xE`. -/
abbrev HasReservedOp (w : EventWord) : Prop :=
  slice w 31 28 = 0 ∨ (0x8 ≤ slice w 31 28 ∧ slice w 31 28 ≤ 0xE)

/-- The reserved bits of each format that has any, as OP and the ends of the slice (R71, R84 b). -/
def reservedSlices : List (Nat × Nat × Nat) :=
  [(0x1, 23, 16), (0x2, 27, 4), (0x3, 27, 2), (0x4, 27, 0), (0x5, 27, 1), (0x7, 27, 8), (0xF, 27, 0)]

/-- R84 (b): a reserved bit of the word's format is 1. -/
abbrev HasReservedBit (w : EventWord) : Prop :=
  ∃ f ∈ reservedSlices, slice w 31 28 = f.1 ∧ slice w f.2.1 f.2.2 ≠ 0

/-- R84 (c): a TICK with `UNIT = 3`. -/
abbrev HasNoSuchUnit (w : EventWord) : Prop := slice w 31 28 = 0x3 ∧ slice w 1 0 = 3

/-- R84 (d): a CMD header with `COUNT ≠ C`. -/
abbrev HasWrongCount (w : EventWord) : Prop := slice w 31 28 = 0x2 ∧ slice w 3 0 ≠ 8

/-- R84 (a) to (d): the header words that are INVALID whatever follows. -/
abbrev HeaderInvalid (w : EventWord) : Prop :=
  HasReservedOp w ∨ HasReservedBit w ∨ HasNoSuchUnit w ∨ HasWrongCount w

/-- R84 (e), R86: a valid CMD header followed by fewer than `ceil(C/2) = 4` words. -/
abbrev CommandTruncated (w : EventWord) (rest : List EventWord) : Prop :=
  w = validCmdHeader ∧ rest.length < 4

/-- The INVALID set of R84 for a header word and the words that follow it. -/
abbrev StreamInvalid (w : EventWord) (rest : List EventWord) : Prop :=
  HeaderInvalid w ∨ CommandTruncated w rest

end Sys2Proof
end

