-- ==== Sys2Proof/Certificates/Slice0/Obligations.lean ====
section
/-! DEFINITION. The statements for the provers, from the numbered rules of spec/. Where one says `t = { s with … }`, the
fields named there may have changed and every other field is as before: that is the operation's frame. The block has no
byte-addressed memory (20_memory.md R51), so a frame is about registers alone. -/

open Sys2Proof Sys2Proof.Machine

/-! ### Encoding (30_encoding.md) -/

/-- Decoding the words of any operation, whatever follows them, gives that operation and leaves what follows. -/
def Obligations.DecodeOfEncodeIsTheOperation : Prop :=
  ∀ (i : Instr) (rest : List EventWord), decode (encode i ++ rest) = .op i rest

/-- Each operation has one spelling: words that decode to it are its encoding. -/
def Obligations.EachOperationHasOneSpelling : Prop :=
  ∀ (ws rest : List EventWord) (i : Instr), decode ws = .op i rest → ws = encode i ++ rest

/-- R84: the decoder refuses exactly the INVALID set. -/
def Obligations.DecoderRefusesExactlyTheInvalidSet : Prop :=
  ∀ (w : EventWord) (rest : List EventWord),
    (∃ why left, decode (w :: rest) = .invalid why left) ↔ StreamInvalid w rest

/-- R73: a word selects a row iff `(w & mask) == match` and the row's constraint holds. -/
def Obligations.HeadersFollowTheOpcodeMap : Prop :=
  ∀ w : EventWord,
    ((∃ line width, decodeHeader w = .single (.edge line width)) ↔ w &&& 0xF0FF0000 = 0x10000000) ∧
    (decodeHeader w = .command ↔ w &&& 0xFFFFFFFF = 0x20000008) ∧
    ((∃ u, decodeHeader w = .single (.tick u)) ↔ w &&& 0xFFFFFFFC = 0x30000000 ∧ w &&& 0x3 ≠ 0x3) ∧
    (decodeHeader w = .single .supv ↔ w &&& 0xFFFFFFFF = 0x40000000) ∧
    ((∃ buf, decodeHeader w = .single (.pub buf)) ↔ w &&& 0xFFFFFFFE = 0x50000000) ∧
    ((∃ dt, decodeHeader w = .single (.time dt)) ↔ w &&& 0xF0000000 = 0x60000000) ∧
    ((∃ reg, decodeHeader w = .single (.rd reg)) ↔ w &&& 0xFFFFFF00 = 0x70000000) ∧
    (decodeHeader w = .single .rst ↔ w &&& 0xFFFFFFFF = 0xF0000000)

/-- R87: an operation is five words long if its header is the valid CMD header, and one word long otherwise; an INVALID
header word, other than that of a truncated CMD, is one word long. -/
def Obligations.HeaderAloneTellsTheLength : Prop :=
  ∀ (w : EventWord) (rest left : List EventWord) (i : Instr) (why : InvalidReason),
    (decode (w :: rest) = .op i left →
      (w = 0x20000008 → rest.length = 4 + left.length ∧ left = rest.drop 4) ∧ (w ≠ 0x20000008 → left = rest)) ∧
    (decode (w :: rest) = .invalid why left → w ≠ 0x20000008 → left = rest)

/-- Words written out bit by bit from the formats of R71, one or more per operation. -/
def Obligations.SpecWordsDecodeToTheirOperations : Prop :=
  decode [0b00010000000000000000001111101000#32] = .op (.edge 0 1000) [] ∧
  decode [0b00011111000000000000001111101000#32] = .op (.edge 15 1000) [] ∧
  decode [0b00100000000000000000000000001000#32, 0x05DC03E8#32, 0x076C044C#32, 0x064004B0#32, 0x06A40514#32]
    = .op (.cmd #v[1000, 1500, 1100, 1900, 1200, 1600, 1300, 1700]) [] ∧
  decode [0b00110000000000000000000000000010#32] = .op (.tick 2) [] ∧
  decode [0b01000000000000000000000000000000#32] = .op .supv [] ∧
  decode [0b01010000000000000000000000000001#32] = .op (.pub true) [] ∧
  decode [0b01100000000000000000000111110101#32] = .op (.time 501) [] ∧
  decode [0b01110000000000000000000001000001#32] = .op (.rd 0x41) [] ∧
  decode [0b11110000000000000000000000000000#32] = .op .rst []

/-! ### The step (00_scope.md R13, 20_memory.md R59, 30_encoding.md R70, R85, R86) -/

/-- When the pending words decode to an operation, a step is that operation executed with its words consumed. -/
def Obligations.StepRunsTheDecodedOperation : Prop :=
  ∀ (s : State) (i : Instr) (rest : List EventWord),
    decode s.stream = .op i rest → step s = exec i { s with stream := rest }

/-- With no word pending a step changes nothing: the model's choice of log entry 3, from R41's "always at rest". -/
def Obligations.StepRestsOnAnEmptyStream : Prop :=
  ∀ s : State, s.stream = [] → step s = .next s

/-- R85: an INVALID header word is consumed, one word, and has no effect but the refusal mark on the run. -/
def Obligations.InvalidWordHasNoEffect : Prop :=
  ∀ (s : State) (w : EventWord) (rest : List EventWord), s.stream = w :: rest → HeaderInvalid w →
    step s = .next { s with stream := rest, refusalMark := true }

/-- R86: a truncated CMD is consumed with all the words after it and changes nothing. -/
def Obligations.TruncatedCommandIsConsumedWhole : Prop :=
  ∀ (s : State) (rest : List EventWord), s.stream = 0x20000008#32 :: rest → rest.length < 4 →
    step s = .next { s with stream := [], refusalMark := true }

/-- R200: every operation completes, in every state; and so does every step, on any words at all. -/
def Obligations.EveryOperationCompletes : Prop :=
  (∀ (i : Instr) (s : State), ∃ t, exec i s = .next t) ∧ (∀ s : State, ∃ t, step s = .next t)

/-- Steps on the words of a sequence of operations run exactly that sequence, and leave the words after them. -/
def Obligations.StepsRunTheEncodedOperations : Prop :=
  ∀ (ops : List Instr) (rest : List EventWord) (s : State),
    runSteps ops.length { s with stream := (ops.map encode).flatten ++ rest } = runOps ops { s with stream := rest }

/-- No stream stops the block: after as many steps as there are words, all of them have been consumed. -/
def Obligations.EveryStreamIsConsumed : Prop :=
  ∀ s : State, ∃ t, runSteps s.stream.length s = .next t ∧ t.stream = []

/-! ### PulseDecoder (40_pulse_decoder.md) -/

/-- R101 to R104, R106: EDGE, both branches, with its frame. -/
def Obligations.EdgeStoresOrResyncs : Prop :=
  ∀ (line : BitVec 4) (width : PulseWidth) (s : State), ∃ t, exec (.edge line width) s = .next t ∧
    t = { s with ch := t.ch, idx := t.idx, last := s.now, lastV := true } ∧
    (500 ≤ width.toNat ∧ width.toNat ≤ 2500 →
      t.ch[s.idx] = width ∧ (∀ k : FrameIndex, k ≠ s.idx → t.ch[k] = s.ch[k]) ∧
      t.idx.val = (s.idx.val + 1) % 8) ∧
    (width.toNat < 500 ∨ 2500 < width.toNat → t.ch = s.ch ∧ t.idx.val = 0)

/-- R110 (i): LINE never changes the result. -/
def Obligations.EdgeIgnoresTheLine : Prop :=
  ∀ (line line' : BitVec 4) (width : PulseWidth) (s : State),
    exec (.edge line width) s = exec (.edge line' width) s

/-- R111, both properties. (1) From a cursor `k`, after `C` in-band edges `CH[(k + i) mod C] = w_i` for every `i` and
`IDX = k`; from cursor 0 the frame is the `C` widths in arrival order. `s.idx + i` is `Fin 8` addition, modulo `C`.
(2) An out-of-band edge resets the cursor and leaves the frame unmodified, from every state. -/
def Obligations.FullFrameFromAnyCursor : Prop :=
  (∀ (lines : Vector (BitVec 4) 8) (widths : Frame) (s : State),
    (∀ i : FrameIndex, 500 ≤ widths[i].toNat ∧ widths[i].toNat ≤ 2500) →
    ∃ t, runOps ((List.finRange 8).map fun i => .edge lines[i] widths[i]) s = .next t ∧
      (∀ i : FrameIndex, t.ch[s.idx + i] = widths[i]) ∧ t.idx = s.idx ∧ (s.idx = 0 → t.ch = widths)) ∧
  (∀ (line : BitVec 4) (width : PulseWidth) (s : State), width.toNat < 500 ∨ 2500 < width.toNat →
    ∃ t, exec (.edge line width) s = .next t ∧ t.idx = 0 ∧ t.ch = s.ch)

/-- R105: from every state, after an out-of-band pulse and `C` in-band pulses, CH holds those widths in arrival order and
the cursor is 0 again. -/
def Obligations.SyncPulseAlignsTheFrame : Prop :=
  ∀ (line : BitVec 4) (sync : PulseWidth) (lines : Vector (BitVec 4) 8) (widths : Frame) (s : State),
    (sync.toNat < 500 ∨ 2500 < sync.toNat) →
    (∀ i : FrameIndex, 500 ≤ widths[i].toNat ∧ widths[i].toNat ≤ 2500) →
    ∃ t, runOps (.edge line sync :: (List.finRange 8).map fun i => .edge lines[i] widths[i]) s = .next t ∧
      t.ch = widths ∧ t.idx = 0

/-! ### The feeds (43_feeds.md) -/

/-- R160 to R163: CMD stores the whole frame unchecked, refreshes liveness, and touches nothing else. -/
def Obligations.CommandStoresTheWholeFrame : Prop :=
  ∀ (v : Frame) (s : State), ∃ t, exec (.cmd v) s = .next t ∧
    t = { s with cmd := t.cmd, last := s.now, lastV := true } ∧ ∀ k : FrameIndex, t.cmd[k] = v[k]

/-- R165 to R167: PUB emits the decoded frame as it stands if there is a buffer, and does nothing if there is none. -/
def Obligations.PublishEmitsTheDecodedFrame : Prop :=
  ∀ s : State,
    exec (.pub true) s = .next { s with emitted := s.emitted ++ [.pub s.ch] } ∧ exec (.pub false) s = .next s

/-! ### OutputMixer (42_output_mixer.md) -/

/-- R143, R145: TICK, slot by slot, with its emissions and its frame. -/
def Obligations.TickAppliesOneDecisionToItsUnit : Prop :=
  ∀ (u : UnitId) (s : State), ∃ t, exec (.tick u) s = .next t ∧
    t = { s with duty := t.duty, dutyV := t.dutyV, emitted := t.emitted } ∧
    (∀ (k : SlotId) (h : (mapInv u k).val < 8), gate s = true →
      (s.liveSrc = .dec → t.duty[u][k] = s.ch[(mapInv u k).val]) ∧
      (s.liveSrc = .cmd → t.duty[u][k] = s.cmd[(mapInv u k).val])) ∧
    (∀ k : SlotId, gate s = false ∨ 8 ≤ (mapInv u k).val → t.duty[u][k] = s.fsd[mapInv u k]) ∧
    t.dutyV[u] = true ∧
    (∀ v : UnitId, v ≠ u → t.duty[v] = s.duty[v] ∧ t.dutyV[v] = s.dutyV[v]) ∧
    t.emitted = s.emitted ++
      [.duty u 0 t.duty[u][0], .duty u 1 t.duty[u][1], .duty u 2 t.duty[u][2], .duty u 3 t.duty[u][3]]

/-- R141, R148 (b), (c): the same by the numbers of the map: unit A owns {6,7,5,4}, B {8,9,10,11}, C {0,1,2,3}. -/
def Obligations.UnitsOwnTheChannelsOfTheMap : Prop :=
  ∀ s : State, ∃ a b c, exec (.tick 0) s = .next a ∧ exec (.tick 1) s = .next b ∧ exec (.tick 2) s = .next c ∧
    (gate s = true → s.liveSrc = .dec →
      a.duty[0] = #v[s.ch[6], s.ch[7], s.ch[5], s.ch[4]] ∧ c.duty[2] = #v[s.ch[0], s.ch[1], s.ch[2], s.ch[3]]) ∧
    (gate s = true → s.liveSrc = .cmd →
      a.duty[0] = #v[s.cmd[6], s.cmd[7], s.cmd[5], s.cmd[4]] ∧ c.duty[2] = #v[s.cmd[0], s.cmd[1], s.cmd[2], s.cmd[3]]) ∧
    (gate s = false →
      a.duty[0] = #v[s.fsd[6], s.fsd[7], s.fsd[5], s.fsd[4]] ∧ c.duty[2] = #v[s.fsd[0], s.fsd[1], s.fsd[2], s.fsd[3]]) ∧
    b.duty[1] = #v[s.fsd[8], s.fsd[9], s.fsd[10], s.fsd[11]]

/-- R147: two TICK(u) with no EDGE, CMD, TIME or RST between them make the same four emissions, and the second leaves the
state as it found it. -/
def Obligations.TickIsIdempotent : Prop :=
  ∀ (u : UnitId) (between : List Instr) (s : State), (∀ i ∈ between, isQuiet i = true) →
    ∃ t₁ t₂ t₃ es, exec (.tick u) s = .next t₁ ∧ runOps between t₁ = .next t₂ ∧ exec (.tick u) t₂ = .next t₃ ∧
      es.length = 4 ∧ t₁.emitted = s.emitted ++ es ∧ t₃ = { t₂ with emitted := t₂.emitted ++ es }

/-! ### FailsafeGate (41_failsafe_gate.md) -/

/-- R120, R122: the comparator on natural numbers, and the gate made from it. -/
def Obligations.GateComparesElapsedTimeModulo : Prop :=
  (∀ now last timeout : Time,
    isLive now last timeout = true ↔ (now.toNat + 2 ^ 32 - last.toNat) % 2 ^ 32 ≤ timeout.toNat) ∧
  (∀ s : State, gate s = true ↔ s.lastV = true ∧ isLive s.now s.last s.timeout = true)

/-- R130: SUPV latches the gate, drives the status signal to it, and touches nothing else. -/
def Obligations.SupervisorLatchesTheGate : Prop :=
  ∀ s : State, ∃ t, exec .supv s = .next t ∧
    t = { s with statusLive := t.statusLive, emitted := t.emitted } ∧
    (t.statusLive = true ↔ s.lastV = true ∧ (s.now.toNat + 2 ^ 32 - s.last.toNat) % 2 ^ 32 ≤ s.timeout.toNat) ∧
    t.emitted = s.emitted ++ [.status t.statusLive]

/-- R128: any EDGE, in band or out, and any CMD makes the gate true at once, from every state. -/
def Obligations.OneInputRestoresLive : Prop :=
  ∀ (i : Instr) (s : State), isInput i = true → ∃ t, exec i s = .next t ∧ gate t = true

/-- R123 (a) to (f). `E` is the sum of the DT of the TIME operations since the latest EDGE or CMD. -/
def Obligations.GateFollowsElapsedTime : Prop :=
  -- (a) before any EDGE or CMD since reset
  (∀ (s : State) (ops : List Instr), (s = State.reset ∨ ∃ s₀, exec .rst s₀ = .next s) →
    (∀ i ∈ ops, isInput i = false) → ∃ t, runOps ops s = .next t ∧ gate t = false) ∧
  -- (b) to (e) after an EDGE or CMD
  (∀ (s : State) (i : Instr) (ops : List Instr), isInput i = true →
    (∀ j ∈ ops, isInput j = false ∧ j ≠ .rst) →
    ∃ t, runOps (i :: ops) s = .next t ∧
      (gate t = true ↔ elapsedTicks ops % 2 ^ 32 ≤ s.timeout.toNat)) ∧
  -- (f) TICK, SUPV, PUB and RD cannot change the gate
  (∀ (s : State) (i : Instr), isQuiet i = true → ∃ t, exec i s = .next t ∧ gate t = gate s)

/-- R149: with `TIMEOUT < E < 2^32` every TICK applies the defaults to all its slots; at `E >= 2^32` the property can
fail by aliasing: a TICK whose `E mod 2^32` is within the timeout, and no RST since, finds the gate true again. -/
def Obligations.StaleInputAppliesTheDefaults : Prop :=
  (∀ (s : State) (i : Instr) (ops : List Instr) (u : UnitId), isInput i = true →
    (∀ j ∈ ops, isInput j = false) → s.timeout.toNat < elapsedTicks ops → elapsedTicks ops < 2 ^ 32 →
    ∃ t v, runOps (i :: ops) s = .next t ∧ exec (.tick u) t = .next v ∧
      (∀ k : SlotId, v.duty[u][k] = s.fsd[mapInv u k]) ∧
      v.emitted = t.emitted ++ [.duty u 0 s.fsd[mapInv u 0], .duty u 1 s.fsd[mapInv u 1],
        .duty u 2 s.fsd[mapInv u 2], .duty u 3 s.fsd[mapInv u 3]]) ∧
  (∀ (s : State) (i : Instr) (ops : List Instr) (u : UnitId), isInput i = true →
    (∀ j ∈ ops, isInput j = false ∧ j ≠ .rst) → 2 ^ 32 ≤ elapsedTicks ops →
    elapsedTicks ops % 2 ^ 32 ≤ s.timeout.toNat →
    ∃ t v, runOps (i :: ops) s = .next t ∧ exec (.tick u) t = .next v ∧
      ∀ (k : SlotId) (h : (mapInv u k).val < 8), v.duty[u][k] = (liveArray t)[(mapInv u k).val])

/-- R231: from reset, by power-on or by RST, which itself emits nothing, every TICK applies the defaults until the first
EDGE or CMD, whatever NOW and TIMEOUT are. -/
def Obligations.BootAppliesTheDefaults : Prop :=
  State.reset.emitted = [] ∧
  (∀ s₀ : State, ∃ s, exec .rst s₀ = .next s ∧ s.emitted = s₀.emitted ∧ s.duty = State.reset.duty) ∧
  (∀ (s : State) (ops : List Instr) (u : UnitId), (s = State.reset ∨ ∃ s₀, exec .rst s₀ = .next s) →
    (∀ i ∈ ops, isInput i = false) →
    ∃ t v, runOps ops s = .next t ∧ gate t = false ∧ exec (.tick u) t = .next v ∧
      ∀ k : SlotId, v.duty[u][k] = s.fsd[mapInv u k])

/-- R132: the latched status feeds nothing. Two runs of any operations from states that differ only in STATUS_LIVE apply
the same duties and end with the same registers, the status itself apart. -/
def Obligations.StatusNeverReachesTheOutputs : Prop :=
  ∀ (ops : List Instr) (s : State) (b : Bool), ∃ t t', runOps ops s = .next t ∧
    runOps ops { s with statusLive := b } = .next t' ∧
    t' = { t with statusLive := t'.statusLive, emitted := t'.emitted } ∧
    t'.emitted.filter isDuty = t.emitted.filter isDuty

/-! ### The environment's operations (44_environment_ops.md) and the read port (10_state.md R37, R38) -/

/-- R180: TIME advances NOW by DT modulo 2^32 and touches nothing else. -/
def Obligations.TimeAdvancesNow : Prop :=
  ∀ (dt : BitVec 28) (s : State), ∃ t, exec (.time dt) s = .next t ∧
    t = { s with now := t.now } ∧ t.now.toNat = (s.now.toNat + dt.toNat) % 2 ^ 32

/-- R181: over any operations NOW moves forward by the sum of the DT, modulo 2^32, and in no other way. -/
def Obligations.NowMovesOnlyForwardByTime : Prop :=
  ∀ (ops : List Instr) (s : State), ∃ t, runOps ops s = .next t ∧
    t.now.toNat = (s.now.toNat + elapsedTicks ops) % 2 ^ 32

/-- R89: `WAIT dt` advances NOW by `dt`, for every 32-bit `dt`, and does nothing else. -/
def Obligations.WaitAdvancesByItsDuration : Prop :=
  ∀ (dt : Time) (s : State), runOps (waitOps dt) s = .next { s with now := s.now + dt }

/-- R37, R38, R183: RD answers with the element that its number names, zero-extended, with the fields of STATUS for number
0x41 and 0 for a reserved number, and changes no state. -/
def Obligations.ReadPortAnswersByNumber : Prop :=
  ∀ (r : BitVec 8) (s : State), ∃ v : ReadValue,
    exec (.rd r) s = .next { s with emitted := s.emitted ++ [.rdata v] } ∧
    (∀ i : FrameIndex, r.toNat = 0x00 + i.val → v.toNat = s.ch[i].toNat) ∧
    (∀ i : FrameIndex, r.toNat = 0x10 + i.val → v.toNat = s.cmd[i].toNat) ∧
    (∀ l : LogicalChannel, r.toNat = 0x20 + l.val → v.toNat = s.fsd[l].toNat) ∧
    (∀ (u : UnitId) (k : SlotId), r.toNat = 0x30 + 4 * u.val + k.val → v.toNat = s.duty[u][k].toNat) ∧
    (r.toNat = 0x40 → v.toNat = s.idx.val) ∧
    (r.toNat = 0x41 → v.getLsbD 0 = s.statusLive ∧ v.getLsbD 1 = s.lastV ∧ v.getLsbD 2 = s.dutyV[0] ∧
      v.getLsbD 3 = s.dutyV[1] ∧ v.getLsbD 4 = s.dutyV[2] ∧ (v.getLsbD 5 = true ↔ s.liveSrc = .dec) ∧
      v.getLsbD 6 = gate s ∧ ∀ j : Nat, 7 ≤ j → v.getLsbD j = false) ∧
    (r.toNat = 0x42 → v = s.last) ∧
    (r.toNat = 0x43 → v = s.now) ∧
    (r.toNat = 0x44 → v = s.timeout) ∧
    (r.toNat = 0x45 → v = 0x00030C08) ∧
    (∀ (u : UnitId) (k : SlotId), r.toNat = 0x50 + (mapInv u k).val → v.toNat = 16 * u.val + k.val) ∧
    ((0x08 ≤ r.toNat ∧ r.toNat ≤ 0x0F) ∨ (0x18 ≤ r.toNat ∧ r.toNat ≤ 0x1F) ∨ (0x2C ≤ r.toNat ∧ r.toNat ≤ 0x2F) ∨
      (0x3C ≤ r.toNat ∧ r.toNat ≤ 0x3F) ∨ (0x46 ≤ r.toNat ∧ r.toNat ≤ 0x4F) ∨ 0x5C ≤ r.toNat → v = 0)

/-- R185: RST puts every mutable element at its reset value and leaves NOW, the configuration and the output alone. -/
def Obligations.ResetOperationClearsTheBlock : Prop :=
  ∀ s : State, ∃ t, exec .rst s = .next t ∧
    t = { s with ch := t.ch, cmd := t.cmd, idx := 0, last := 0, lastV := false, statusLive := false,
                 duty := t.duty, dutyV := t.dutyV } ∧
    (∀ k : FrameIndex, t.ch[k] = 0 ∧ t.cmd[k] = 0) ∧
    (∀ u : UnitId, t.dutyV[u] = false ∧ ∀ k : SlotId, t.duty[u][k] = 0)

/-- R230, R185: power-on leaves the values that R230 gives the mutable elements, and RST, from every state, leaves the same
ones: the state of power-on, but for NOW, the configuration and the model's own fields, which are as they were. -/
def Obligations.PowerOnAndResetOperationAgree : Prop :=
  (∀ k : FrameIndex, State.reset.ch[k] = 0 ∧ State.reset.cmd[k] = 0) ∧
  State.reset.idx = 0 ∧ State.reset.last = 0 ∧ State.reset.lastV = false ∧ State.reset.statusLive = false ∧
  (∀ u : UnitId, State.reset.dutyV[u] = false ∧ ∀ k : SlotId, State.reset.duty[u][k] = 0) ∧
  ∀ s : State, exec .rst s = .next { State.reset with
    now := s.now, fsd := s.fsd, timeout := s.timeout, liveSrc := s.liveSrc,
    stream := s.stream, emitted := s.emitted, refusalMark := s.refusalMark }

/-! ### Whole-machine rules -/

/-- The invariants of R42 hold after reset. -/
def Obligations.BlockInvariantHoldsAtReset : Prop := BlockInv State.reset

/-- R42: every step keeps the invariants (a) to (d), and (e) no step changes the configuration. -/
def Obligations.EveryStepKeepsTheBlockInvariant : Prop :=
  ∀ s t : State, BlockInv s → step s = .next t →
    t.idx.val ≤ 7 ∧ BlockInv t ∧ t.fsd = s.fsd ∧ t.timeout = s.timeout ∧ t.liveSrc = s.liveSrc

/-- What the outputs can show (Safety.lean) holds after reset. -/
def Obligations.OutputInvariantHoldsAtReset : Prop := OutputInv State.reset

/-- Every step keeps what the outputs can show: unused channels carry their defaults, with `LIVE_SRC = DEC` every applied
duty is 0, a decoded width or a default, and the status is never LIVE before an input. -/
def Obligations.EveryStepKeepsTheOutputInvariant : Prop :=
  ∀ s t : State, OutputInv s → step s = .next t → OutputInv t

/-- From R213's table: an agent's operation changes no element outside its column "May write", and what it emits depends on
nothing outside its column "May read". What it writes depends on that column and on the old value of the element written,
which R213 does not list: CH keeps its other entries, and for LAST, CMD, STATUS_LIVE, DUTY and the writes of RST the exact
values are stated by the operations' own statements. -/
def Obligations.AgentsKeepToTheirRights : Prop :=
  (∀ (i : Instr) (s t : State), exec i s = .next t →
    ∀ e : Element, mayWrite (agentOf i) e = false → agreeOn s t e) ∧
  (∀ (i : Instr) (s₁ s₂ t₁ t₂ : State), exec i s₁ = .next t₁ → exec i s₂ = .next t₂ →
    (∀ e : Element, mayRead s₁.liveSrc (agentOf i) e = true → agreeOn s₁ s₂ e) →
    (∃ es, t₁.emitted = s₁.emitted ++ es ∧ t₂.emitted = s₂.emitted ++ es) ∧
    (∀ e : Element, agreeOn s₁ s₂ e → agreeOn t₁ t₂ e))
end

