-- ==== Sys2Proof/Laws/Decode.lean ====
section
/-! SUPPORT. What the decoder can do with a non-empty stream, said once, and the small facts of the encoder. -/

namespace Sys2Proof

/-- Everything a decoder can answer for a header word and the words after it (R70, R85, R86). -/
theorem decode_cons_cases (w : EventWord) (rest : List EventWord) :
    (∃ i, decodeHeader w = .single i ∧ decode (w :: rest) = .op i rest) ∨
    (∃ d0 d1 d2 d3 rest', decodeHeader w = .command ∧ rest = d0 :: d1 :: d2 :: d3 :: rest' ∧
      decode (w :: rest) = .op (.cmd (frameOfWords d0 d1 d2 d3)) rest') ∨
    (decodeHeader w = .command ∧ rest.length < 4 ∧ decode (w :: rest) = .invalid .truncatedCommand []) ∨
    (∃ why, decodeHeader w = .invalid why ∧ decode (w :: rest) = .invalid why rest) := by
  cases h : decodeHeader w with
  | single i => exact .inl ⟨i, rfl, by simp [decode, h]⟩
  | invalid why => exact .inr (.inr (.inr ⟨why, rfl, by simp [decode, h]⟩))
  | command =>
    match rest with
    | d0 :: d1 :: d2 :: d3 :: rest' =>
      exact .inr (.inl ⟨d0, d1, d2, d3, rest', rfl, rfl, by simp [decode, h, decodeCommandData]⟩)
    | [] | [_] | [_, _] | [_, _, _] =>
      exact .inr (.inr (.inl ⟨rfl, by simp, by simp [decode, h, decodeCommandData]⟩))

/-- Only the empty stream is idle. -/
theorem decode_eq_idle_iff (ws : List EventWord) : decode ws = .idle ↔ ws = [] := by
  cases ws with
  | nil => simp [decode]
  | cons w rest =>
    obtain ⟨i, -, h⟩ | ⟨d0, d1, d2, d3, rest', -, -, h⟩ | ⟨-, -, h⟩ | ⟨why, -, h⟩ := decode_cons_cases w rest <;>
      simp [h]

/-- A decoded operation consumes at least one word (R85, R87). -/
theorem decode_op_shortens {ws rest : List EventWord} {i : Instr} (h : decode ws = .op i rest) :
    rest.length < ws.length := by
  cases ws with
  | nil => simp [decode] at h
  | cons w tail =>
    obtain ⟨j, -, hd⟩ | ⟨d0, d1, d2, d3, rest', -, rfl, hd⟩ | ⟨-, -, hd⟩ | ⟨why, -, hd⟩ := decode_cons_cases w tail <;>
      rw [hd] at h <;> cases h <;> simp
    omega

/-- An INVALID word consumes at least one word (R85, R86). -/
theorem decode_invalid_shortens {ws rest : List EventWord} {why : InvalidReason} (h : decode ws = .invalid why rest) :
    rest.length < ws.length := by
  cases ws with
  | nil => simp [decode] at h
  | cons w tail =>
    obtain ⟨j, -, hd⟩ | ⟨d0, d1, d2, d3, rest', -, rfl, hd⟩ | ⟨-, -, hd⟩ | ⟨why', -, hd⟩ := decode_cons_cases w tail <;>
      rw [hd] at h <;> cases h <;> simp

/-- The reserved bits of R84 (b), format by format. -/
theorem hasReservedBit_iff (w : EventWord) : HasReservedBit w ↔
    (slice w 31 28 = 0x1 ∧ slice w 23 16 ≠ 0) ∨ (slice w 31 28 = 0x2 ∧ slice w 27 4 ≠ 0) ∨
    (slice w 31 28 = 0x3 ∧ slice w 27 2 ≠ 0) ∨ (slice w 31 28 = 0x4 ∧ slice w 27 0 ≠ 0) ∨
    (slice w 31 28 = 0x5 ∧ slice w 27 1 ≠ 0) ∨ (slice w 31 28 = 0x7 ∧ slice w 27 8 ≠ 0) ∨
    (slice w 31 28 = 0xF ∧ slice w 27 0 ≠ 0) := by
  simp [HasReservedBit, reservedSlices]

/-- A field of a word, as a number (R10, R71). -/
theorem fieldAt_toNat (w : EventWord) (lo len : Nat) : (fieldAt w lo len).toNat = w.toNat / 2 ^ lo % 2 ^ len := by
  simp [fieldAt, BitVec.extractLsb'_toNat, Nat.shiftRight_eq_div_pow]

/-- Concatenation puts its left operand in the more significant position (R10). -/
theorem append_toNat {m n : Nat} (a : BitVec m) (b : BitVec n) : (a ++ b).toNat = a.toNat * 2 ^ n + b.toNat := by
  rw [BitVec.toNat_append, ← Nat.shiftLeft_add_eq_or_of_lt b.isLt, Nat.shiftLeft_eq]

/-! ### The header words as numbers (R74, R75, R77 to R82) -/

theorem encodeHeader_edge_toNat (line : BitVec 4) (width : PulseWidth) :
    (encodeHeader (.edge line width)).toNat = 0x10000000 + line.toNat * 2 ^ 24 + width.toNat :=
  (append_toNat (0x1#4 ++ line ++ 0x00#8) width).trans (by rw [append_toNat, append_toNat]; simp; omega)

theorem encodeHeader_time_toNat (dt : BitVec 28) : (encodeHeader (.time dt)).toNat = 0x60000000 + dt.toNat :=
  (append_toNat 0x6#4 dt).trans (by simp)

theorem encodeHeader_rd_toNat (reg : BitVec 8) : (encodeHeader (.rd reg)).toNat = 0x70000000 + reg.toNat :=
  (append_toNat (0x7#4 ++ 0#20) reg).trans (by simp)

/-- The header words of the operations whose operands are few enough to list (R75, R77, R78, R79, R82). -/
theorem encodeHeader_cmd (v : Frame) : encodeHeader (.cmd v) = 0x20000008#32 := rfl

theorem encodeHeader_tick_toNat (u : UnitId) : (encodeHeader (.tick u)).toNat = 0x30000000 + u.val := by
  revert u; decide

theorem encodeHeader_supv : encodeHeader .supv = 0x40000000#32 := rfl

theorem encodeHeader_pub_toNat (buf : Bool) : (encodeHeader (.pub buf)).toNat = 0x50000000 + buf.toNat := by
  revert buf; decide

theorem encodeHeader_rst : encodeHeader .rst = 0xF0000000#32 := rfl

end Sys2Proof
end

