-- ==== Sys2Proof/Laws/Operands.lean ====
section
/-! SUPPORT. What the decisions and the operand forms give: the band, the comparator, the gate, the channel map, the source
selection and the read port's numbers. -/

namespace Sys2Proof.Machine

/-- `C = 8` on this hardware (R5). -/
@[simp] theorem frameLen_eq : Config.frameLen = 8 := rfl

/-- The band test, as the inequalities of R6. -/
theorem inBand_iff (w : PulseWidth) : inBand w = true ↔ 500 ≤ w.toNat ∧ w.toNat ≤ 2500 := by
  simp only [inBand, decide_eq_true_eq]; rfl

theorem inBand_eq_false_iff (w : PulseWidth) : inBand w = false ↔ w.toNat < 500 ∨ 2500 < w.toNat := by
  rw [← Bool.not_eq_true, inBand_iff]; omega

/-- The comparator in natural numbers (R120). -/
theorem isLive_iff (now last timeout : Time) :
    isLive now last timeout = true ↔ (now.toNat + (2 ^ 32 - last.toNat)) % 2 ^ 32 ≤ timeout.toNat := by
  simp [isLive, elapsedBetween, BitVec.toNat_sub, Nat.add_comm]

/-- A timestamp taken now is live, for every timeout (R123 b). -/
@[simp] theorem isLive_self (now timeout : Time) : isLive now now timeout = true := by
  simp [isLive, elapsedBetween]

/-- Without a timestamp the gate is false (R122). -/
theorem gate_of_no_timestamp {s : State} (h : s.lastV = false) : gate s = false := by
  simp [gate, h]

/-- The gate depends on LAST_V, NOW, LAST and TIMEOUT only (R122). -/
theorem gate_congr {s t : State} (hv : s.lastV = t.lastV) (hn : s.now = t.now) (hl : s.last = t.last)
    (ht : s.timeout = t.timeout) : gate s = gate t := by
  simp [gate, hv, hn, hl, ht]

/-- MAP and MAP_INV are each other's inverse (R141), so the map is a bijection. -/
theorem mapTable_mapInv : ∀ (u : UnitId) (k : SlotId), mapTable[mapInv u k] = (u, k) := by decide

theorem mapInv_mapTable : ∀ l : LogicalChannel, mapInv mapTable[l].1 mapTable[l].2 = l := by decide

/-- In FAILSAFE every channel takes its default (R142). -/
theorem sourceValue_failsafe (s : State) (l : LogicalChannel) : sourceValue s false l = s.fsd[l] := by
  simp [sourceValue]

/-- A channel without a live value always takes its default (R142). -/
theorem sourceValue_unused (s : State) (g : Bool) {l : LogicalChannel} (h : 8 ≤ l.val) :
    sourceValue s g l = s.fsd[l] := by
  cases g <;> simp [sourceValue, Vector.getElem?_eq_none h]

/-- In LIVE a channel with a live value takes it (R142). -/
theorem sourceValue_live (s : State) {l : LogicalChannel} (h : l.val < 8) :
    sourceValue s true l = (liveArray s)[l.val] := by
  simp [sourceValue, h]

/-- Slot `k` of a unit's row is the source value of its channel (R143). -/
theorem sourceRow_get (s : State) (g : Bool) (u : UnitId) (k : SlotId) :
    (sourceRow s g u)[k] = sourceValue s g (mapInv u k) := by
  fin_cases k <;> rfl

/-- The row depends on the gate value, LIVE_SRC, the live array and FSD only (R142). -/
theorem sourceRow_congr {s t : State} (g : Bool) (u : UnitId) (ha : liveArray s = liveArray t) (hf : s.fsd = t.fsd) :
    sourceRow s g u = sourceRow t g u := by
  simp [sourceRow, sourceValue, ha, hf]

/-- A named register has its number (R37): reading by number finds it. -/
theorem regOfNumber_regNumber (n : RegName) : regOfNumber (regNumber n) = some n := by
  cases n with
  | ch i | cmd i => revert i; decide
  | fsd l | map l => revert l; decide
  | duty u k => revert u k; decide
  | idx | status | last | now | timeout | params => decide

/-- What the read port answers for a named register (R37). -/
theorem readPort_regNumber (s : State) (n : RegName) : readPort s (regNumber n) = regValue s n := by
  simp [readPort, regOfNumber_regNumber]

end Sys2Proof.Machine
end

