-- ==== Sys2Proof/Laws/State.lean ====
section
/-! SUPPORT. For each named operation over the state, what every field holds after it: the small lemmas that let later proofs
read a field without unfolding an operation. -/

namespace Sys2Proof.Machine

/-! ### emit (R11) appends to the output and touches nothing else -/

@[simp] theorem emit_ch (es : List Emission) (s : State) : (emit es s).ch = s.ch := rfl
@[simp] theorem emit_cmd (es : List Emission) (s : State) : (emit es s).cmd = s.cmd := rfl
@[simp] theorem emit_idx (es : List Emission) (s : State) : (emit es s).idx = s.idx := rfl
@[simp] theorem emit_last (es : List Emission) (s : State) : (emit es s).last = s.last := rfl
@[simp] theorem emit_lastV (es : List Emission) (s : State) : (emit es s).lastV = s.lastV := rfl
@[simp] theorem emit_statusLive (es : List Emission) (s : State) : (emit es s).statusLive = s.statusLive := rfl
@[simp] theorem emit_duty (es : List Emission) (s : State) : (emit es s).duty = s.duty := rfl
@[simp] theorem emit_dutyV (es : List Emission) (s : State) : (emit es s).dutyV = s.dutyV := rfl
@[simp] theorem emit_now (es : List Emission) (s : State) : (emit es s).now = s.now := rfl
@[simp] theorem emit_fsd (es : List Emission) (s : State) : (emit es s).fsd = s.fsd := rfl
@[simp] theorem emit_timeout (es : List Emission) (s : State) : (emit es s).timeout = s.timeout := rfl
@[simp] theorem emit_liveSrc (es : List Emission) (s : State) : (emit es s).liveSrc = s.liveSrc := rfl
@[simp] theorem emit_stream (es : List Emission) (s : State) : (emit es s).stream = s.stream := rfl
@[simp] theorem emit_emitted (es : List Emission) (s : State) : (emit es s).emitted = s.emitted ++ es := rfl
@[simp] theorem emit_refusalMark (es : List Emission) (s : State) : (emit es s).refusalMark = s.refusalMark := rfl

/-! ### consume (R70) moves past words of the stream and touches nothing else -/

@[simp] theorem consume_ch (rest : List EventWord) (s : State) : (consume rest s).ch = s.ch := rfl
@[simp] theorem consume_cmd (rest : List EventWord) (s : State) : (consume rest s).cmd = s.cmd := rfl
@[simp] theorem consume_idx (rest : List EventWord) (s : State) : (consume rest s).idx = s.idx := rfl
@[simp] theorem consume_last (rest : List EventWord) (s : State) : (consume rest s).last = s.last := rfl
@[simp] theorem consume_lastV (rest : List EventWord) (s : State) : (consume rest s).lastV = s.lastV := rfl
@[simp] theorem consume_statusLive (rest : List EventWord) (s : State) : (consume rest s).statusLive = s.statusLive := rfl
@[simp] theorem consume_duty (rest : List EventWord) (s : State) : (consume rest s).duty = s.duty := rfl
@[simp] theorem consume_dutyV (rest : List EventWord) (s : State) : (consume rest s).dutyV = s.dutyV := rfl
@[simp] theorem consume_now (rest : List EventWord) (s : State) : (consume rest s).now = s.now := rfl
@[simp] theorem consume_fsd (rest : List EventWord) (s : State) : (consume rest s).fsd = s.fsd := rfl
@[simp] theorem consume_timeout (rest : List EventWord) (s : State) : (consume rest s).timeout = s.timeout := rfl
@[simp] theorem consume_liveSrc (rest : List EventWord) (s : State) : (consume rest s).liveSrc = s.liveSrc := rfl
@[simp] theorem consume_stream (rest : List EventWord) (s : State) : (consume rest s).stream = rest := rfl
@[simp] theorem consume_emitted (rest : List EventWord) (s : State) : (consume rest s).emitted = s.emitted := rfl
@[simp] theorem consume_refusalMark (rest : List EventWord) (s : State) : (consume rest s).refusalMark = s.refusalMark := rfl

/-! ### absorbInvalid (R85) consumes and marks, and touches nothing of the block -/

@[simp] theorem absorbInvalid_ch (rest : List EventWord) (s : State) : (absorbInvalid rest s).ch = s.ch := rfl
@[simp] theorem absorbInvalid_cmd (rest : List EventWord) (s : State) : (absorbInvalid rest s).cmd = s.cmd := rfl
@[simp] theorem absorbInvalid_idx (rest : List EventWord) (s : State) : (absorbInvalid rest s).idx = s.idx := rfl
@[simp] theorem absorbInvalid_last (rest : List EventWord) (s : State) : (absorbInvalid rest s).last = s.last := rfl
@[simp] theorem absorbInvalid_lastV (rest : List EventWord) (s : State) : (absorbInvalid rest s).lastV = s.lastV := rfl
@[simp] theorem absorbInvalid_statusLive (rest : List EventWord) (s : State) : (absorbInvalid rest s).statusLive = s.statusLive := rfl
@[simp] theorem absorbInvalid_duty (rest : List EventWord) (s : State) : (absorbInvalid rest s).duty = s.duty := rfl
@[simp] theorem absorbInvalid_dutyV (rest : List EventWord) (s : State) : (absorbInvalid rest s).dutyV = s.dutyV := rfl
@[simp] theorem absorbInvalid_now (rest : List EventWord) (s : State) : (absorbInvalid rest s).now = s.now := rfl
@[simp] theorem absorbInvalid_fsd (rest : List EventWord) (s : State) : (absorbInvalid rest s).fsd = s.fsd := rfl
@[simp] theorem absorbInvalid_timeout (rest : List EventWord) (s : State) : (absorbInvalid rest s).timeout = s.timeout := rfl
@[simp] theorem absorbInvalid_liveSrc (rest : List EventWord) (s : State) : (absorbInvalid rest s).liveSrc = s.liveSrc := rfl
@[simp] theorem absorbInvalid_stream (rest : List EventWord) (s : State) : (absorbInvalid rest s).stream = rest := rfl
@[simp] theorem absorbInvalid_emitted (rest : List EventWord) (s : State) : (absorbInvalid rest s).emitted = s.emitted := rfl
@[simp] theorem absorbInvalid_refusalMark (rest : List EventWord) (s : State) : (absorbInvalid rest s).refusalMark = true := rfl

/-! ### refreshLiveness (R106, R162) writes LAST and LAST_V -/

@[simp] theorem refreshLiveness_ch (s : State) : (refreshLiveness s).ch = s.ch := rfl
@[simp] theorem refreshLiveness_cmd (s : State) : (refreshLiveness s).cmd = s.cmd := rfl
@[simp] theorem refreshLiveness_idx (s : State) : (refreshLiveness s).idx = s.idx := rfl
@[simp] theorem refreshLiveness_last (s : State) : (refreshLiveness s).last = s.now := rfl
@[simp] theorem refreshLiveness_lastV (s : State) : (refreshLiveness s).lastV = true := rfl
@[simp] theorem refreshLiveness_statusLive (s : State) : (refreshLiveness s).statusLive = s.statusLive := rfl
@[simp] theorem refreshLiveness_duty (s : State) : (refreshLiveness s).duty = s.duty := rfl
@[simp] theorem refreshLiveness_dutyV (s : State) : (refreshLiveness s).dutyV = s.dutyV := rfl
@[simp] theorem refreshLiveness_now (s : State) : (refreshLiveness s).now = s.now := rfl
@[simp] theorem refreshLiveness_fsd (s : State) : (refreshLiveness s).fsd = s.fsd := rfl
@[simp] theorem refreshLiveness_timeout (s : State) : (refreshLiveness s).timeout = s.timeout := rfl
@[simp] theorem refreshLiveness_liveSrc (s : State) : (refreshLiveness s).liveSrc = s.liveSrc := rfl
@[simp] theorem refreshLiveness_stream (s : State) : (refreshLiveness s).stream = s.stream := rfl
@[simp] theorem refreshLiveness_emitted (s : State) : (refreshLiveness s).emitted = s.emitted := rfl
@[simp] theorem refreshLiveness_refusalMark (s : State) : (refreshLiveness s).refusalMark = s.refusalMark := rfl

/-! ### storeAtCursor (R102, R103) writes CH and IDX -/

@[simp] theorem storeAtCursor_ch (w : PulseWidth) (s : State) : (storeAtCursor w s).ch = s.ch.set s.idx w := rfl
@[simp] theorem storeAtCursor_cmd (w : PulseWidth) (s : State) : (storeAtCursor w s).cmd = s.cmd := rfl
@[simp] theorem storeAtCursor_idx (w : PulseWidth) (s : State) : (storeAtCursor w s).idx = nextCursor s.idx := rfl
@[simp] theorem storeAtCursor_last (w : PulseWidth) (s : State) : (storeAtCursor w s).last = s.last := rfl
@[simp] theorem storeAtCursor_lastV (w : PulseWidth) (s : State) : (storeAtCursor w s).lastV = s.lastV := rfl
@[simp] theorem storeAtCursor_statusLive (w : PulseWidth) (s : State) : (storeAtCursor w s).statusLive = s.statusLive := rfl
@[simp] theorem storeAtCursor_duty (w : PulseWidth) (s : State) : (storeAtCursor w s).duty = s.duty := rfl
@[simp] theorem storeAtCursor_dutyV (w : PulseWidth) (s : State) : (storeAtCursor w s).dutyV = s.dutyV := rfl
@[simp] theorem storeAtCursor_now (w : PulseWidth) (s : State) : (storeAtCursor w s).now = s.now := rfl
@[simp] theorem storeAtCursor_fsd (w : PulseWidth) (s : State) : (storeAtCursor w s).fsd = s.fsd := rfl
@[simp] theorem storeAtCursor_timeout (w : PulseWidth) (s : State) : (storeAtCursor w s).timeout = s.timeout := rfl
@[simp] theorem storeAtCursor_liveSrc (w : PulseWidth) (s : State) : (storeAtCursor w s).liveSrc = s.liveSrc := rfl
@[simp] theorem storeAtCursor_stream (w : PulseWidth) (s : State) : (storeAtCursor w s).stream = s.stream := rfl
@[simp] theorem storeAtCursor_emitted (w : PulseWidth) (s : State) : (storeAtCursor w s).emitted = s.emitted := rfl
@[simp] theorem storeAtCursor_refusalMark (w : PulseWidth) (s : State) : (storeAtCursor w s).refusalMark = s.refusalMark := rfl

/-! ### resyncCursor (R104) writes IDX -/

@[simp] theorem resyncCursor_ch (s : State) : (resyncCursor s).ch = s.ch := rfl
@[simp] theorem resyncCursor_cmd (s : State) : (resyncCursor s).cmd = s.cmd := rfl
@[simp] theorem resyncCursor_idx (s : State) : (resyncCursor s).idx = 0 := rfl
@[simp] theorem resyncCursor_last (s : State) : (resyncCursor s).last = s.last := rfl
@[simp] theorem resyncCursor_lastV (s : State) : (resyncCursor s).lastV = s.lastV := rfl
@[simp] theorem resyncCursor_statusLive (s : State) : (resyncCursor s).statusLive = s.statusLive := rfl
@[simp] theorem resyncCursor_duty (s : State) : (resyncCursor s).duty = s.duty := rfl
@[simp] theorem resyncCursor_dutyV (s : State) : (resyncCursor s).dutyV = s.dutyV := rfl
@[simp] theorem resyncCursor_now (s : State) : (resyncCursor s).now = s.now := rfl
@[simp] theorem resyncCursor_fsd (s : State) : (resyncCursor s).fsd = s.fsd := rfl
@[simp] theorem resyncCursor_timeout (s : State) : (resyncCursor s).timeout = s.timeout := rfl
@[simp] theorem resyncCursor_liveSrc (s : State) : (resyncCursor s).liveSrc = s.liveSrc := rfl
@[simp] theorem resyncCursor_stream (s : State) : (resyncCursor s).stream = s.stream := rfl
@[simp] theorem resyncCursor_emitted (s : State) : (resyncCursor s).emitted = s.emitted := rfl
@[simp] theorem resyncCursor_refusalMark (s : State) : (resyncCursor s).refusalMark = s.refusalMark := rfl

/-! ### storeCommand (R161) writes CMD -/

@[simp] theorem storeCommand_ch (v : Frame) (s : State) : (storeCommand v s).ch = s.ch := rfl
@[simp] theorem storeCommand_cmd (v : Frame) (s : State) : (storeCommand v s).cmd = v := rfl
@[simp] theorem storeCommand_idx (v : Frame) (s : State) : (storeCommand v s).idx = s.idx := rfl
@[simp] theorem storeCommand_last (v : Frame) (s : State) : (storeCommand v s).last = s.last := rfl
@[simp] theorem storeCommand_lastV (v : Frame) (s : State) : (storeCommand v s).lastV = s.lastV := rfl
@[simp] theorem storeCommand_statusLive (v : Frame) (s : State) : (storeCommand v s).statusLive = s.statusLive := rfl
@[simp] theorem storeCommand_duty (v : Frame) (s : State) : (storeCommand v s).duty = s.duty := rfl
@[simp] theorem storeCommand_dutyV (v : Frame) (s : State) : (storeCommand v s).dutyV = s.dutyV := rfl
@[simp] theorem storeCommand_now (v : Frame) (s : State) : (storeCommand v s).now = s.now := rfl
@[simp] theorem storeCommand_fsd (v : Frame) (s : State) : (storeCommand v s).fsd = s.fsd := rfl
@[simp] theorem storeCommand_timeout (v : Frame) (s : State) : (storeCommand v s).timeout = s.timeout := rfl
@[simp] theorem storeCommand_liveSrc (v : Frame) (s : State) : (storeCommand v s).liveSrc = s.liveSrc := rfl
@[simp] theorem storeCommand_stream (v : Frame) (s : State) : (storeCommand v s).stream = s.stream := rfl
@[simp] theorem storeCommand_emitted (v : Frame) (s : State) : (storeCommand v s).emitted = s.emitted := rfl
@[simp] theorem storeCommand_refusalMark (v : Frame) (s : State) : (storeCommand v s).refusalMark = s.refusalMark := rfl

/-! ### applyRow (R143) writes the DUTY row and the DUTY_V bit of one unit -/

@[simp] theorem applyRow_ch (u : UnitId) (row : UnitRow) (s : State) : (applyRow u row s).ch = s.ch := rfl
@[simp] theorem applyRow_cmd (u : UnitId) (row : UnitRow) (s : State) : (applyRow u row s).cmd = s.cmd := rfl
@[simp] theorem applyRow_idx (u : UnitId) (row : UnitRow) (s : State) : (applyRow u row s).idx = s.idx := rfl
@[simp] theorem applyRow_last (u : UnitId) (row : UnitRow) (s : State) : (applyRow u row s).last = s.last := rfl
@[simp] theorem applyRow_lastV (u : UnitId) (row : UnitRow) (s : State) : (applyRow u row s).lastV = s.lastV := rfl
@[simp] theorem applyRow_statusLive (u : UnitId) (row : UnitRow) (s : State) : (applyRow u row s).statusLive = s.statusLive := rfl
@[simp] theorem applyRow_duty (u : UnitId) (row : UnitRow) (s : State) : (applyRow u row s).duty = s.duty.set u row := rfl
@[simp] theorem applyRow_dutyV (u : UnitId) (row : UnitRow) (s : State) : (applyRow u row s).dutyV = s.dutyV.set u true := rfl
@[simp] theorem applyRow_now (u : UnitId) (row : UnitRow) (s : State) : (applyRow u row s).now = s.now := rfl
@[simp] theorem applyRow_fsd (u : UnitId) (row : UnitRow) (s : State) : (applyRow u row s).fsd = s.fsd := rfl
@[simp] theorem applyRow_timeout (u : UnitId) (row : UnitRow) (s : State) : (applyRow u row s).timeout = s.timeout := rfl
@[simp] theorem applyRow_liveSrc (u : UnitId) (row : UnitRow) (s : State) : (applyRow u row s).liveSrc = s.liveSrc := rfl
@[simp] theorem applyRow_stream (u : UnitId) (row : UnitRow) (s : State) : (applyRow u row s).stream = s.stream := rfl
@[simp] theorem applyRow_emitted (u : UnitId) (row : UnitRow) (s : State) : (applyRow u row s).emitted = s.emitted := rfl
@[simp] theorem applyRow_refusalMark (u : UnitId) (row : UnitRow) (s : State) : (applyRow u row s).refusalMark = s.refusalMark := rfl

/-! ### latchStatus (R130) writes STATUS_LIVE -/

@[simp] theorem latchStatus_ch (g : Bool) (s : State) : (latchStatus g s).ch = s.ch := rfl
@[simp] theorem latchStatus_cmd (g : Bool) (s : State) : (latchStatus g s).cmd = s.cmd := rfl
@[simp] theorem latchStatus_idx (g : Bool) (s : State) : (latchStatus g s).idx = s.idx := rfl
@[simp] theorem latchStatus_last (g : Bool) (s : State) : (latchStatus g s).last = s.last := rfl
@[simp] theorem latchStatus_lastV (g : Bool) (s : State) : (latchStatus g s).lastV = s.lastV := rfl
@[simp] theorem latchStatus_statusLive (g : Bool) (s : State) : (latchStatus g s).statusLive = g := rfl
@[simp] theorem latchStatus_duty (g : Bool) (s : State) : (latchStatus g s).duty = s.duty := rfl
@[simp] theorem latchStatus_dutyV (g : Bool) (s : State) : (latchStatus g s).dutyV = s.dutyV := rfl
@[simp] theorem latchStatus_now (g : Bool) (s : State) : (latchStatus g s).now = s.now := rfl
@[simp] theorem latchStatus_fsd (g : Bool) (s : State) : (latchStatus g s).fsd = s.fsd := rfl
@[simp] theorem latchStatus_timeout (g : Bool) (s : State) : (latchStatus g s).timeout = s.timeout := rfl
@[simp] theorem latchStatus_liveSrc (g : Bool) (s : State) : (latchStatus g s).liveSrc = s.liveSrc := rfl
@[simp] theorem latchStatus_stream (g : Bool) (s : State) : (latchStatus g s).stream = s.stream := rfl
@[simp] theorem latchStatus_emitted (g : Bool) (s : State) : (latchStatus g s).emitted = s.emitted := rfl
@[simp] theorem latchStatus_refusalMark (g : Bool) (s : State) : (latchStatus g s).refusalMark = s.refusalMark := rfl

/-! ### advanceTime (R180) writes NOW -/

@[simp] theorem advanceTime_ch (dt : BitVec 28) (s : State) : (advanceTime dt s).ch = s.ch := rfl
@[simp] theorem advanceTime_cmd (dt : BitVec 28) (s : State) : (advanceTime dt s).cmd = s.cmd := rfl
@[simp] theorem advanceTime_idx (dt : BitVec 28) (s : State) : (advanceTime dt s).idx = s.idx := rfl
@[simp] theorem advanceTime_last (dt : BitVec 28) (s : State) : (advanceTime dt s).last = s.last := rfl
@[simp] theorem advanceTime_lastV (dt : BitVec 28) (s : State) : (advanceTime dt s).lastV = s.lastV := rfl
@[simp] theorem advanceTime_statusLive (dt : BitVec 28) (s : State) : (advanceTime dt s).statusLive = s.statusLive := rfl
@[simp] theorem advanceTime_duty (dt : BitVec 28) (s : State) : (advanceTime dt s).duty = s.duty := rfl
@[simp] theorem advanceTime_dutyV (dt : BitVec 28) (s : State) : (advanceTime dt s).dutyV = s.dutyV := rfl
@[simp] theorem advanceTime_now (dt : BitVec 28) (s : State) : (advanceTime dt s).now = s.now + dt.setWidth 32 := rfl
@[simp] theorem advanceTime_fsd (dt : BitVec 28) (s : State) : (advanceTime dt s).fsd = s.fsd := rfl
@[simp] theorem advanceTime_timeout (dt : BitVec 28) (s : State) : (advanceTime dt s).timeout = s.timeout := rfl
@[simp] theorem advanceTime_liveSrc (dt : BitVec 28) (s : State) : (advanceTime dt s).liveSrc = s.liveSrc := rfl
@[simp] theorem advanceTime_stream (dt : BitVec 28) (s : State) : (advanceTime dt s).stream = s.stream := rfl
@[simp] theorem advanceTime_emitted (dt : BitVec 28) (s : State) : (advanceTime dt s).emitted = s.emitted := rfl
@[simp] theorem advanceTime_refusalMark (dt : BitVec 28) (s : State) : (advanceTime dt s).refusalMark = s.refusalMark := rfl

/-! ### clearBlock (R185) writes every mutable element and neither NOW nor the configuration -/

@[simp] theorem clearBlock_ch (s : State) : (clearBlock s).ch = Vector.replicate 8 0 := rfl
@[simp] theorem clearBlock_cmd (s : State) : (clearBlock s).cmd = Vector.replicate 8 0 := rfl
@[simp] theorem clearBlock_idx (s : State) : (clearBlock s).idx = 0 := rfl
@[simp] theorem clearBlock_last (s : State) : (clearBlock s).last = 0 := rfl
@[simp] theorem clearBlock_lastV (s : State) : (clearBlock s).lastV = false := rfl
@[simp] theorem clearBlock_statusLive (s : State) : (clearBlock s).statusLive = false := rfl
@[simp] theorem clearBlock_duty (s : State) : (clearBlock s).duty = Vector.replicate 3 (Vector.replicate 4 0) := rfl
@[simp] theorem clearBlock_dutyV (s : State) : (clearBlock s).dutyV = Vector.replicate 3 false := rfl
@[simp] theorem clearBlock_now (s : State) : (clearBlock s).now = s.now := rfl
@[simp] theorem clearBlock_fsd (s : State) : (clearBlock s).fsd = s.fsd := rfl
@[simp] theorem clearBlock_timeout (s : State) : (clearBlock s).timeout = s.timeout := rfl
@[simp] theorem clearBlock_liveSrc (s : State) : (clearBlock s).liveSrc = s.liveSrc := rfl
@[simp] theorem clearBlock_stream (s : State) : (clearBlock s).stream = s.stream := rfl
@[simp] theorem clearBlock_emitted (s : State) : (clearBlock s).emitted = s.emitted := rfl
@[simp] theorem clearBlock_refusalMark (s : State) : (clearBlock s).refusalMark = s.refusalMark := rfl

end Sys2Proof.Machine
end

