-- ==== Sys2Proof/Laws/Exec.lean ====
section
/-! SUPPORT. What exec answers for each operation, in terms of the named operations, what a step can do, and how sequences
of operations compose. -/

namespace Sys2Proof.Machine

theorem exec_edge_inBand (line : BitVec 4) {width : PulseWidth} (s : State) (h : inBand width = true) :
    exec (.edge line width) s = .next (refreshLiveness (storeAtCursor width s)) := by
  simp [exec, execEdge, h]

theorem exec_edge_outOfBand (line : BitVec 4) {width : PulseWidth} (s : State) (h : inBand width = false) :
    exec (.edge line width) s = .next (refreshLiveness (resyncCursor s)) := by
  simp [exec, execEdge, h]

theorem exec_cmd (v : Frame) (s : State) : exec (.cmd v) s = .next (refreshLiveness (storeCommand v s)) := rfl

theorem exec_tick (u : UnitId) (s : State) :
    exec (.tick u) s =
      .next (emit (dutyEmissions u (sourceRow s (gate s) u)) (applyRow u (sourceRow s (gate s) u) s)) := rfl

theorem exec_supv (s : State) : exec .supv s = .next (emit [.status (gate s)] (latchStatus (gate s) s)) := rfl

theorem exec_pub_buffer (s : State) : exec (.pub true) s = .next (emit [.pub s.ch] s) := rfl

theorem exec_pub_skip (s : State) : exec (.pub false) s = .next s := rfl

theorem exec_time (dt : BitVec 28) (s : State) : exec (.time dt) s = .next (advanceTime dt s) := rfl

theorem exec_rd (r : BitVec 8) (s : State) : exec (.rd r) s = .next (emit [.rdata (readPort s r)] s) := rfl

theorem exec_rst (s : State) : exec .rst s = .next (clearBlock s) := rfl

/-- NOW after TIME, in natural numbers (R180). -/
theorem advanceTime_now_toNat (dt : BitVec 28) (s : State) :
    (advanceTime dt s).now.toNat = (s.now.toNat + dt.toNat) % 2 ^ 32 := by
  have := dt.isLt
  rw [advanceTime_now, BitVec.toNat_add, BitVec.toNat_setWidth, Nat.mod_eq_of_lt (a := dt.toNat) (by omega)]

/-- Everything exec can do, said once: the operations' next states in terms of the named operations. -/
theorem exec_cases {i : Instr} {s t : State} (h : exec i s = .next t) :
    (∃ l w, i = .edge l w ∧ inBand w = true ∧ t = refreshLiveness (storeAtCursor w s)) ∨
    (∃ l w, i = .edge l w ∧ inBand w = false ∧ t = refreshLiveness (resyncCursor s)) ∨
    (∃ v, i = .cmd v ∧ t = refreshLiveness (storeCommand v s)) ∨
    (∃ u, i = .tick u ∧ t = emit (dutyEmissions u (sourceRow s (gate s) u)) (applyRow u (sourceRow s (gate s) u) s)) ∨
    (i = .supv ∧ t = emit [.status (gate s)] (latchStatus (gate s) s)) ∨
    (i = .pub true ∧ t = emit [.pub s.ch] s) ∨
    (i = .pub false ∧ t = s) ∨
    (∃ dt, i = .time dt ∧ t = advanceTime dt s) ∨
    (∃ r, i = .rd r ∧ t = emit [.rdata (readPort s r)] s) ∨
    (i = .rst ∧ t = clearBlock s) := by
  cases i with
  | edge l w =>
    cases hw : inBand w
    · rw [exec_edge_outOfBand l s hw] at h; cases h; simp [hw]
    · rw [exec_edge_inBand l s hw] at h; cases h; simp [hw]
  | cmd v => cases h; simp
  | tick u => cases h; simp
  | supv => cases h; simp
  | pub b => cases b <;> cases h <;> simp
  | time dt => cases h; simp
  | rd r => cases h; simp
  | rst => cases h; simp

/-- Everything a step can do, said once (R13, R70, R85). -/
theorem step_cases {s t : State} (h : step s = .next t) :
    (s.stream = [] ∧ t = s) ∨
    (∃ i rest, decode s.stream = .op i rest ∧ exec i (consume rest s) = .next t) ∨
    (∃ why rest, decode s.stream = .invalid why rest ∧ t = absorbInvalid rest s) := by
  unfold step at h
  cases hd : decode s.stream with
  | idle => rw [hd] at h; cases h; exact .inl ⟨(decode_eq_idle_iff _).mp hd, rfl⟩
  | op i rest => rw [hd] at h; exact .inr (.inl ⟨i, rest, rfl, h⟩)
  | invalid why rest => rw [hd] at h; cases h; exact .inr (.inr ⟨why, rest, rfl, rfl⟩)

/-- No operation reads or writes the words still to come. -/
theorem exec_consume {i : Instr} {s t : State} (rest : List EventWord) (h : exec i s = .next t) :
    exec i (consume rest s) = .next (consume rest t) := by
  obtain ⟨l, w, rfl, hw, rfl⟩ | ⟨l, w, rfl, hw, rfl⟩ | ⟨v, rfl, rfl⟩ | ⟨u, rfl, rfl⟩ | ⟨rfl, rfl⟩ | ⟨rfl, rfl⟩ |
    ⟨rfl, rfl⟩ | ⟨dt, rfl, rfl⟩ | ⟨r, rfl, rfl⟩ | ⟨rfl, rfl⟩ := exec_cases h
  · exact exec_edge_inBand l _ hw
  · exact exec_edge_outOfBand l _ hw
  all_goals rfl

@[simp] theorem runOps_nil (s : State) : runOps [] s = .next s := rfl

theorem runOps_cons {i : Instr} {is : List Instr} {s t : State} (h : exec i s = .next t) :
    runOps (i :: is) s = runOps is t := by
  simp [runOps, h]

/-- Running two sequences is running one after the other. -/
theorem runOps_append {is js : List Instr} {s t : State} (h : runOps is s = .next t) :
    runOps (is ++ js) s = runOps js t := by
  induction is generalizing s with
  | nil => cases h; rfl
  | cons i is ih =>
    simp only [List.cons_append, runOps] at h ⊢
    split at h
    · exact ih h
    · cases h
    · cases h

theorem runSteps_succ {n : Nat} {s t : State} (h : step s = .next t) : runSteps (n + 1) s = runSteps n t := by
  simp [runSteps, h]

end Sys2Proof.Machine
end

