-- ==== Sys2Proof/Laws/PerInstr.lean ====
section
/-! SUPPORT. The family Encoding: a fact about every operation as syntax, its words. The header word that the encoder writes
is outside the INVALID set of R84, and the number of words is the one that the header tells (R87). -/

namespace Sys2Proof.Laws.Encoding

/-- The header of an operation is valid by R84, and its length is `1 + ceil(C/2)` for CMD and 1 for every other (R87). -/
def Statement (i : Instr) : Prop :=
  ¬ HeaderInvalid (encodeHeader i) ∧
    (encode i).length = if encodeHeader i = validCmdHeader then 5 else 1

/-- A one-word operation whose header's number is known meets the statement when arithmetic says so. -/
theorem of_header_number {i : Instr} {n : Nat} (h : (encodeHeader i).toNat = n) (hd : encodeData i = [])
    (hne : n ≠ 0x20000008) (hv : ¬ HeaderInvalid (encodeHeader i)) : Statement i := by
  refine ⟨hv, ?_⟩
  have : encodeHeader i ≠ validCmdHeader := fun e => hne (by rw [← h, e]; rfl)
  simp [encode, hd, this]

theorem edge (line : BitVec 4) (width : PulseWidth) : Statement (.edge line width) := by
  have hl := line.isLt
  have hw := width.isLt
  have h := encodeHeader_edge_toNat line width
  refine of_header_number h rfl (by omega) ?_
  simp only [HeaderInvalid, HasReservedOp, hasReservedBit_iff, HasNoSuchUnit, HasWrongCount, slice, h]
  omega

theorem cmd (v : Frame) : Statement (.cmd v) := by
  refine ⟨?_, rfl⟩
  show ¬ HeaderInvalid validCmdHeader
  decide

theorem tick (u : UnitId) : Statement (.tick u) := by
  refine ⟨?_, ?_⟩ <;> revert u <;> decide

theorem supv : Statement .supv := ⟨by decide, by decide⟩

theorem pub (buf : Bool) : Statement (.pub buf) := by
  refine ⟨?_, ?_⟩ <;> revert buf <;> decide

theorem time (dt : BitVec 28) : Statement (.time dt) := by
  have hd := dt.isLt
  have h := encodeHeader_time_toNat dt
  refine of_header_number h rfl (by omega) ?_
  simp only [HeaderInvalid, HasReservedOp, hasReservedBit_iff, HasNoSuchUnit, HasWrongCount, slice, h]
  omega

theorem rd (reg : BitVec 8) : Statement (.rd reg) := by
  have hr := reg.isLt
  have h := encodeHeader_rd_toNat reg
  refine of_header_number h rfl (by omega) ?_
  simp only [HeaderInvalid, HasReservedOp, hasReservedBit_iff, HasNoSuchUnit, HasWrongCount, slice, h]
  omega

theorem rst : Statement .rst := ⟨by decide, by decide⟩

end Sys2Proof.Laws.Encoding
end

