-- ==== Sys2Proof/Tests/Slice0.lean ====
section
/-! SUPPORT. Tests. Expected results are taken from spec/95_test_vectors.md and from the encodings of 30_encoding.md, and
each names its source. The second half shows, for every statement of Certificates/Slice0/Obligations.lean that has
hypotheses, operands and a state that meet them, at the boundaries where clauses meet. -/

namespace Sys2Proof.Tests

open Sys2Proof.Machine

/-- The reset state `Z(n)` under the test configuration TCFG of 95_test_vectors.md section 0. -/
def zState (n : Time) (src : Config.LiveSrc) : State :=
  { State.reset with
    now := n
    timeout := 500
    liveSrc := src
    fsd := #v[1500, 1501, 1502, 1503, 1504, 1505, 1506, 1507, 1508, 1509, 1510, 1511] }

/-- The frame F1 of 95_test_vectors.md section 0. -/
def f1 : Frame := #v[1000, 1500, 1100, 1900, 1200, 1600, 1300, 1700]

/-- `Z(1000)` after FRAME F1 (vector S1), as a state. -/
def afterF1 : State := { zState 1000 .dec with ch := f1, last := 1000, lastV := true }

/-- A property of the state that one operation leaves. -/
def leaves (i : Instr) (s : State) (p : State → Bool) : Bool :=
  match exec i s with
  | .next t => p t
  | .fault _ => false
  | .refused _ => false

/-- A property of the state that one step leaves. -/
def stepLeaves (s : State) (p : State → Bool) : Bool :=
  match step s with
  | .next t => p t
  | .fault _ => false
  | .refused _ => false

/-! ### Well-formedness: one ill-formed word for each check of R84, and the header words of the valid ones -/

theorem test_reserved_op_refused : HasReservedOp 0x00000000 ∧ HasReservedOp 0x80000000 ∧ HasReservedOp 0xE0000001 := by
  decide

theorem test_reserved_bit_refused :
    HasReservedBit 0x100103E8 ∧ HasReservedBit 0x20000018 ∧ HasReservedBit 0x30000004 ∧ HasReservedBit 0x40000001 ∧
    HasReservedBit 0x50000002 ∧ HasReservedBit 0x70000100 ∧ HasReservedBit 0xF0000001 ∧ HasReservedBit 0xFFFFFFFF := by
  refine ⟨?_, ?_, ?_, ?_, ?_, ?_, ?_, ?_⟩ <;> decide

theorem test_unit_three_refused : HasNoSuchUnit 0x30000003 := by decide

theorem test_wrong_count_refused : HasWrongCount 0x20000007 := by decide

theorem test_truncated_command_refused : CommandTruncated 0x20000008 [0x05DC03E8, 0x076C044C] := by decide

theorem test_valid_headers_accepted :
    ¬ HeaderInvalid 0x1F0003E8 ∧ ¬ HeaderInvalid 0x20000008 ∧ ¬ HeaderInvalid 0x30000002 ∧
    ¬ HeaderInvalid 0x40000000 ∧ ¬ HeaderInvalid 0x50000001 ∧ ¬ HeaderInvalid 0x6FFFFFFF ∧
    ¬ HeaderInvalid 0x700000FF ∧ ¬ HeaderInvalid 0xF0000000 := by
  refine ⟨?_, ?_, ?_, ?_, ?_, ?_, ?_, ?_⟩ <;> decide

/-! ### Decoding: a word written out from the formats of R71 for every constructor -/

/-- OP 0001, LINE 1111, 00000000, WIDTH 0000001111101000 (R74; vector E8). -/
theorem test_decode_edge :
    decode [0b00011111000000000000001111101000#32] = .op (.edge 15 1000) [] := by decide

/-- OP 0010, 24 zeros, COUNT 1000, then HI and LO halves (R75, R76; vector K1). -/
theorem test_decode_cmd :
    decode [0b00100000000000000000000000001000#32, 0x05DC03E8#32, 0x076C044C#32, 0x064004B0#32, 0x06A40514#32]
      = .op (.cmd f1) [] := by decide

/-- OP 0011, 26 zeros, UNIT 10 (R77). -/
theorem test_decode_tick : decode [0b00110000000000000000000000000010#32] = .op (.tick 2) [] := by decide

/-- OP 0100, 28 zeros (R78). -/
theorem test_decode_supv : decode [0b01000000000000000000000000000000#32] = .op .supv [] := by decide

/-- OP 0101, 27 zeros, BUF 1 (R79). -/
theorem test_decode_pub : decode [0b01010000000000000000000000000001#32] = .op (.pub true) [] := by decide

/-- OP 0110, DT 0000000000000000000111110101 (R80; 501 ticks). -/
theorem test_decode_time : decode [0b01100000000000000000000111110101#32] = .op (.time 501) [] := by decide

/-- OP 0111, 20 zeros, REG 01000001 (R81; STATUS). -/
theorem test_decode_rd : decode [0b01110000000000000000000001000001#32] = .op (.rd 0x41) [] := by decide

/-- OP 1111, 28 zeros (R82). -/
theorem test_decode_rst : decode [0b11110000000000000000000000000000#32] = .op .rst [] := by decide

/-- Every INVALID word of 95_test_vectors.md 2.9 is refused by name, one word consumed. -/
theorem test_decode_invalid_words :
    decode [0x00000000, 0x40000000] = .invalid .reservedOp [0x40000000] ∧
    decode [0xFFFFFFFF] = .invalid .reservedBits [] ∧ decode [0x30000003] = .invalid .noSuchUnit [] ∧
    decode [0x30000004] = .invalid .reservedBits [] ∧ decode [0x20000007, 0x05DC03E8] = .invalid .wrongCount [0x05DC03E8] ∧
    decode [0x20000018] = .invalid .reservedBits [] ∧ decode [0x80000000] = .invalid .reservedOp [] ∧
    decode [0xE0000001] = .invalid .reservedOp [] ∧ decode [0x40000001] = .invalid .reservedBits [] ∧
    decode [0xF0000001] = .invalid .reservedBits [] ∧ decode [0x50000002] = .invalid .reservedBits [] ∧
    decode [0x70000100] = .invalid .reservedBits [] ∧ decode [0x100103E8] = .invalid .reservedBits [] := by decide

/-- A command whose data words stop short is consumed whole (vector K5). -/
theorem test_decode_truncated :
    decode [0x20000008, 0x05DC03E8, 0x076C044C] = .invalid .truncatedCommand [] := by decide

/-- Data words are not decoded as operations (vector K6). -/
theorem test_decode_data_words :
    decode [0x20000008, 0xF0000000, 0x30000000, 0x40000000, 0x50000001]
      = .op (.cmd #v[0, 0xF000, 0, 0x3000, 0, 0x4000, 1, 0x5000]) [] := by decide

/-- The table's rows as numbers, operand words above the given bits being 0. -/
theorem test_table_words :
    decodeTableWord 32 0x100003E8 = some (.edge 0 1000) ∧
    decodeTableWord 32 0x20000008 = some (.cmd (Vector.replicate 8 0)) ∧
    decodeTableWord 160 (0x20000008 + 0x05DC03E8 * 2 ^ 32) = some (.cmd #v[1000, 1500, 0, 0, 0, 0, 0, 0]) ∧
    decodeTableWord 32 0x30000003 = none := by decide

/-- A trace line assembles to the words the spec writes (R88; F1 as a command, `TICK C`, `PUB.SKIP`, `RD STATUS`). -/
theorem test_assemble :
    assemble [.cmd f1, .tick 2, .pubSkip, .rdName .status, .sync]
      = [0x20000008, 0x05DC03E8, 0x076C044C, 0x064004B0, 0x06A40514, 0x30000002, 0x50000000, 0x70000041, 0x10000BB8] := by
  decide

/-! ### The step -/

/-- A step consumes an INVALID word, marks the run and leaves LAST alone (95_test_vectors.md 2.9). -/
theorem test_step_invalid :
    stepLeaves { zState 1000 .dec with stream := [0x30000003, 0x40000000] }
      (fun t => t.stream = [0x40000000] && t.refusalMark && !t.lastV && t.emitted = []) = true := by decide

/-- The word placed by withFetchWord is what the next step runs, ahead of the words already pending. -/
theorem test_step_fetch_word :
    stepLeaves (({ zState 1000 .dec with stream := [0x40000000] } : State).withFetchWord 32 0x600001F5)
      (fun t => t.now = 1501 && t.stream = [0x40000000]) = true := by decide

/-! ### The operations: at most two tests each -/

/-- Vector E7: from cursor 7, EDGE 1700 fills `CH[7]` and the cursor wraps. -/
theorem test_edge_wraps :
    leaves (.edge 0 1700) { zState 1000 .dec with idx := 7 }
      (fun t => t.ch = #v[0, 0, 0, 0, 0, 0, 0, 1700] && t.idx = 0 && t.last = 1000 && t.lastV) = true := by decide

/-- Vector X10: an out-of-band edge at cursor 3 resets the cursor, keeps the frame and refreshes liveness. -/
theorem test_edge_resync :
    leaves (.edge 0 3000) { zState 1007 .dec with ch := #v[1000, 1500, 1100, 0, 0, 0, 0, 0], idx := 3, last := 1000, lastV := true }
      (fun t => t.ch = #v[1000, 1500, 1100, 0, 0, 0, 0, 0] && t.idx = 0 && t.last = 1007) = true := by decide

/-- Vector K2: commanded values are not range-checked. -/
theorem test_cmd_stores_unchecked :
    leaves (.cmd #v[0, 65535, 499, 2501, 1500, 1500, 1500, 1500]) (zState 1000 .cmd)
      (fun t => t.cmd[1] = 65535 && t.cmd[2] = 499 && t.last = 1000 && t.lastV && t.ch[0] = 0) = true := by decide

/-- Scenario B (X8): unit A, which owns {6,7,5,4}, receives [1300, 1700, 1600, 1200]. -/
theorem test_tick_live :
    leaves (.tick 0) afterF1
      (fun t => t.emitted = [.duty 0 0 1300, .duty 0 1 1700, .duty 0 2 1600, .duty 0 3 1200]
        && t.duty[0] = #v[1300, 1700, 1600, 1200] && t.dutyV = #v[true, false, false]) = true := by decide

/-- Scenario C (X9): at `E = 501` the same tick applies the defaults. -/
theorem test_tick_stale :
    leaves (.tick 0) { afterF1 with now := 1501 } (fun t => t.duty[0] = #v[1506, 1507, 1505, 1504]) = true := by decide

/-- Vector G5, at `E = 501`: SUPV writes and emits 0. -/
theorem test_supv_stale :
    leaves .supv { afterF1 with now := 1501, statusLive := true }
      (fun t => !t.statusLive && t.emitted = [.status false]) = true := by decide

/-- At `E = 500` SUPV writes and emits 1 (R131 b). -/
theorem test_supv_boundary :
    leaves .supv { afterF1 with now := 1500 } (fun t => t.statusLive && t.emitted = [.status true]) = true := by decide

/-- Vector B3: PUB emits the decoded frame with the gate false. -/
theorem test_pub_failsafe :
    leaves (.pub true) { afterF1 with now := 1501 } (fun t => t.emitted = [.pub f1]) = true := by decide

/-- Vector B1: PUB.SKIP emits nothing. -/
theorem test_pub_skip : leaves (.pub false) afterF1 (fun t => t = afterF1) = true := by decide

/-- Vector M1: NOW wraps from 0xFFFFFFFF. -/
theorem test_time_wraps : leaves (.time 1) (zState 0xFFFFFFFF .cmd) (fun t => t.now = 0) = true := by decide

/-- Vector D1: PARAMS reads 0x00030C08. -/
theorem test_rd_params : leaves (.rd 0x45) (zState 5 .cmd) (fun t => t.emitted = [.rdata 0x00030C08]) = true := by decide

/-- The STATUS of program P1: 0x3F when stale, latched LIVE, all units applied, LIVE_SRC = DEC. -/
theorem test_rd_status :
    leaves (.rd 0x41) { afterF1 with now := 1501, statusLive := true, dutyV := #v[true, true, true] }
      (fun t => t.emitted = [.rdata 0x0000003F]) = true := by decide

/-- Vector Z1: RST gives `Z(1000)`. -/
theorem test_rst_clears :
    leaves .rst { afterF1 with statusLive := true, idx := 5, cmd := f1, duty := #v[#v[1, 2, 3, 4], #v[5, 6, 7, 8], #v[9, 9, 9, 9]], dutyV := #v[true, true, true] }
      (fun t => t = zState 1000 .dec) = true := by decide

/-- Table G1: the comparator at its boundary, across the wrap, and with now before last. -/
theorem test_is_live :
    isLive 1500 1000 500 = true ∧ isLive 1501 1000 500 = false ∧ isLive 0x000001E4 0xFFFFFFF0 500 = true ∧
    isLive 0x000001E5 0xFFFFFFF0 500 = false ∧ isLive 999 1000 500 = false ∧ isLive 1001 1000 0 = false ∧
    isLive 7 9 0xFFFFFFFF = true := by decide

/-- Vector G2: in `Z(0)` the comparator is true and the gate false. -/
theorem test_gate_needs_timestamp : isLive 0 0 500 = true ∧ gate (zState 0 .cmd) = false := by decide

/-! ### Witnesses: the hypotheses of the statements can be met -/

/-- For EachOperationHasOneSpelling and StepRunsTheDecodedOperation: words that decode to an operation. -/
theorem witness_decoded_operation :
    decode [0x100003E8, 0x00000000] = .op (.edge 0 1000) [0x00000000] ∧
    decode ({ zState 0 .cmd with stream := [0x30000001, 0x40000000] } : State).stream = .op (.tick 1) [0x40000000] := by
  decide

/-- For HeaderAloneTellsTheLength: each of its three clauses. -/
theorem witness_lengths :
    decode [0x20000008, 1, 2, 3, 4, 5] = .op (.cmd #v[1, 0, 2, 0, 3, 0, 4, 0]) [5] ∧
    decode [0x40000000, 5] = .op .supv [5] ∧ decode [0x20000009, 5] = .invalid .wrongCount [5] := by decide

/-- For StepRestsOnAnEmptyStream. -/
theorem witness_empty_stream : State.reset.stream = [] := rfl

/-- For InvalidWordHasNoEffect: a pending word of the INVALID set. -/
theorem witness_invalid_word :
    ({ zState 0 .cmd with stream := [0x30000003, 0x40000000] } : State).stream = 0x30000003 :: [0x40000000] ∧
    HeaderInvalid 0x30000003 := by decide

/-- For TruncatedCommandIsConsumedWhole: no data word, and three of the four. -/
theorem witness_truncated_command :
    ({ zState 0 .cmd with stream := [0x20000008] } : State).stream = 0x20000008#32 :: [] ∧
    ({ zState 0 .cmd with stream := [0x20000008, 1, 2, 3] } : State).stream = 0x20000008#32 :: [1, 2, 3] ∧
    ([] : List EventWord).length < 4 ∧ ([1, 2, 3] : List EventWord).length < 4 := by decide

/-- For EdgeStoresOrResyncs: the four widths at the ends of the band, each in exactly one clause. -/
theorem witness_band_ends :
    (500 ≤ (500 : PulseWidth).toNat ∧ (500 : PulseWidth).toNat ≤ 2500) ∧
    (500 ≤ (2500 : PulseWidth).toNat ∧ (2500 : PulseWidth).toNat ≤ 2500) ∧
    (499 : PulseWidth).toNat < 500 ∧ 2500 < (2501 : PulseWidth).toNat := by decide

/-- For FullFrameFromAnyCursor and SyncPulseAlignsTheFrame: a frame of in-band widths, a cursor other than 0, and a pulse
out of band at either end. -/
theorem witness_full_frame :
    (∀ i : FrameIndex, 500 ≤ f1[i].toNat ∧ f1[i].toNat ≤ 2500) ∧ ({ afterF1 with idx := 3 } : State).idx ≠ 0 ∧
    afterF1.idx = 0 ∧ ((499 : PulseWidth).toNat < 500 ∨ 2500 < (499 : PulseWidth).toNat) ∧
    ((3000 : PulseWidth).toNat < 500 ∨ 2500 < (3000 : PulseWidth).toNat) := by decide

/-- For TickAppliesOneDecisionToItsUnit and UnitsOwnTheChannelsOfTheMap: the gate true at `E = 500` with either live source,
false at `E = 501`, a channel below `C` and one at `C`, and another unit. -/
theorem witness_tick_clauses :
    gate { afterF1 with now := 1500 } = true ∧ ({ afterF1 with now := 1500 } : State).liveSrc = .dec ∧
    gate { afterF1 with now := 1500, liveSrc := .cmd } = true ∧ ({ afterF1 with liveSrc := .cmd } : State).liveSrc = .cmd ∧
    gate { afterF1 with now := 1501 } = false ∧ (mapInv 0 1).val < 8 ∧ 8 ≤ (mapInv 1 0).val ∧ (1 : UnitId) ≠ 0 := by
  decide

/-- For TickIsIdempotent: the four quiet operations between two ticks. -/
theorem witness_quiet_between : ∀ i ∈ [Instr.tick 1, .supv, .pub true, .rd 0x41], isQuiet i = true := by decide

/-- For OneInputRestoresLive: an out-of-band edge and a command are inputs. -/
theorem witness_inputs : isInput (.edge 0 3000) = true ∧ isInput (.cmd f1) = true := by decide

/-- For GateFollowsElapsedTime and BootAppliesTheDefaults: the two ways to have been reset, and operations that are no
input, RST among them. -/
theorem witness_after_reset :
    State.reset = State.reset ∧ exec .rst afterF1 = .next (zState 1000 .dec) ∧
    (∀ i ∈ [Instr.time 501, .tick 0, .rst, .supv], isInput i = false) := by
  refine ⟨rfl, rfl, by decide⟩

/-- For GateFollowsElapsedTime (b) to (f): an input, then operations that are neither input nor RST, at `E = TIMEOUT` and
at `E = TIMEOUT + 1`. -/
theorem witness_elapsed :
    isInput (.edge 0 1000) = true ∧ (∀ j ∈ [Instr.time 500, .tick 0], isInput j = false ∧ j ≠ .rst) ∧
    elapsedTicks [Instr.time 500, .tick 0] = 500 ∧ elapsedTicks [Instr.time 500, .time 1] = 501 ∧
    (zState 0 .cmd).timeout.toNat = 500 ∧ isQuiet (.rd 0x41) = true := by decide

/-- For StaleInputAppliesTheDefaults: a silence of 501 ticks, and one of exactly `2^32`. -/
theorem witness_silences :
    (zState 0 .dec).timeout.toNat < elapsedTicks [.time 501] ∧ elapsedTicks [.time 501] < 2 ^ 32 ∧
    (∀ j ∈ List.replicate 16 (Instr.time 0x0FFFFFFF) ++ [.time 16], isInput j = false ∧ j ≠ .rst) ∧
    elapsedTicks (List.replicate 16 (Instr.time 0x0FFFFFFF) ++ [.time 16]) = 2 ^ 32 ∧ (mapInv 2 3).val < 8 := by decide

/-- For ReadPortAnswersByNumber: numbers at the ends of every range, each in one clause. -/
theorem witness_register_numbers :
    (0x07#8).toNat = 0x00 + (7 : FrameIndex).val ∧ (0x10#8).toNat = 0x10 + (0 : FrameIndex).val ∧
    (0x17#8).toNat = 0x10 + (7 : FrameIndex).val ∧ (0x20#8).toNat = 0x20 + (0 : LogicalChannel).val ∧
    (0x2B#8).toNat = 0x20 + (11 : LogicalChannel).val ∧ (0x30#8).toNat = 0x30 + 4 * (0 : UnitId).val + (0 : SlotId).val ∧
    (0x3B#8).toNat = 0x30 + 4 * (2 : UnitId).val + (3 : SlotId).val ∧ (0x40#8).toNat = 0x40 ∧ (0x41#8).toNat = 0x41 ∧
    (0x42#8).toNat = 0x42 ∧ (0x43#8).toNat = 0x43 ∧ (0x44#8).toNat = 0x44 ∧ (0x45#8).toNat = 0x45 ∧
    (0x50#8).toNat = 0x50 + (mapInv 2 0).val ∧ (0x5B#8).toNat = 0x50 + (mapInv 1 3).val ∧
    (0x08 ≤ (0x08#8).toNat ∧ (0x0F#8).toNat ≤ 0x0F) ∧ (0x18 ≤ (0x18#8).toNat ∧ (0x1F#8).toNat ≤ 0x1F) ∧
    (0x2C ≤ (0x2C#8).toNat ∧ (0x2F#8).toNat ≤ 0x2F) ∧ (0x3C ≤ (0x3C#8).toNat ∧ (0x3F#8).toNat ≤ 0x3F) ∧
    (0x46 ≤ (0x46#8).toNat ∧ (0x4F#8).toNat ≤ 0x4F) ∧ 0x5C ≤ (0x5C#8).toNat := by decide

/-- For EveryStepKeepsTheBlockInvariant: a state that has seen nothing and is about to tick meets the invariant, and its
step gives a next state. -/
theorem witness_block_invariant :
    BlockInv { zState 0 .dec with stream := [0x30000001] } ∧
    ∃ t, step { zState 0 .dec with stream := [0x30000001] } = .next t := by
  refine ⟨⟨fun k => .inl ?_, fun _ => ⟨rfl, ?_, ?_, rfl⟩, fun u _ => ?_⟩, ⟨_, rfl⟩⟩
  · revert k; decide
  · decide
  · decide
  · revert u; decide

/-- A LIVE state whose unit A has applied F1 under `LIVE_SRC = DEC`, about to tick unit B. -/
def unitALive : State :=
  { afterF1 with
    statusLive := true
    duty := #v[#v[1300, 1700, 1600, 1200], #v[0, 0, 0, 0], #v[0, 0, 0, 0]]
    dutyV := #v[true, false, false]
    stream := [0x30000001] }

/-- For EveryStepKeepsTheOutputInvariant. -/
theorem witness_output_invariant : OutputInv unitALive ∧ ∃ t, step unitALive = .next t := by
  refine ⟨⟨fun k => .inr ?_, fun _ => rfl, ?_, fun _ u k _ => .inl ?_⟩, ⟨_, rfl⟩⟩
  · revert k; decide
  · decide
  · unfold DecodedOrZero; revert u k; decide

/-- For AgentsKeepToTheirRights: an operation that answers, an element its agent may not write, and two states that differ
in an element the agent may not read. -/
theorem witness_rights :
    exec (.pub true) afterF1 = .next { afterF1 with emitted := [.pub f1] } ∧ mayWrite (agentOf (.pub true)) .ch = false ∧
    (∃ t, exec (.pub true) { afterF1 with cmd := f1 } = .next t) ∧
    (∀ e, mayRead afterF1.liveSrc (agentOf (.pub true)) e = true → agreeOn afterF1 { afterF1 with cmd := f1 } e) ∧
    ¬ agreeOn afterF1 { afterF1 with cmd := f1 } .cmd := by
  refine ⟨rfl, rfl, ⟨_, rfl⟩, fun e he => ?_, by unfold agreeOn; decide⟩
  cases of_decide_eq_true he
  rfl

end Sys2Proof.Tests
end

section
/-! The read port of 10_state.md R37 and R38: the register numbers as natural numbers, what a number answers, the bits of
STATUS and the MAP words, and from these the statement about RD (R183). -/

namespace Sys2Proof.Machine

/-! ### The numbers of the registers that come in ranges (R37) -/

theorem regNumber_ch_toNat (i : FrameIndex) : (regNumber (.ch i)).toNat = 0x00 + i.val := by
  simp [regNumber]; omega

theorem regNumber_cmd_toNat (i : FrameIndex) : (regNumber (.cmd i)).toNat = 0x10 + i.val := by
  simp [regNumber]; omega

theorem regNumber_fsd_toNat (l : LogicalChannel) : (regNumber (.fsd l)).toNat = 0x20 + l.val := by
  simp [regNumber]; omega

theorem regNumber_duty_toNat (u : UnitId) (k : SlotId) :
    (regNumber (.duty u k)).toNat = 0x30 + 4 * u.val + k.val := by
  simp [regNumber]; omega

theorem regNumber_map_toNat (l : LogicalChannel) : (regNumber (.map l)).toNat = 0x50 + l.val := by
  simp [regNumber]; omega

/-! ### What a number answers -/

/-- Only the value of the operand matters: whatever number equals a register's reads that register (R37). -/
theorem readPort_of_toNat_eq (s : State) {r : BitVec 8} (n : RegName) (h : r.toNat = (regNumber n).toNat) :
    readPort s r = regValue s n := by
  rw [BitVec.eq_of_toNat_eq h, readPort_regNumber]

/-- A number that R37 gives no register: one in a gap between two ranges, or from 0x5C up. -/
def IsReservedNumber (r : BitVec 8) : Prop :=
  (0x08 ≤ r.toNat ∧ r.toNat ≤ 0x0F) ∨ (0x18 ≤ r.toNat ∧ r.toNat ≤ 0x1F) ∨ (0x2C ≤ r.toNat ∧ r.toNat ≤ 0x2F) ∨
    (0x3C ≤ r.toNat ∧ r.toNat ≤ 0x3F) ∨ (0x46 ≤ r.toNat ∧ r.toNat ≤ 0x4F) ∨ 0x5C ≤ r.toNat

theorem regOfNumber_reserved {r : BitVec 8} (h : IsReservedNumber r) : regOfNumber r = none := by
  unfold IsReservedNumber at h
  simp (disch := omega) only [regOfNumber, dif_neg, if_neg]

theorem readPort_reserved (s : State) {r : BitVec 8} (h : IsReservedNumber r) : readPort s r = 0 := by
  simp [readPort, regOfNumber_reserved h]

/-! ### The values that are assembled at the read -/

theorem liveSrcBit_eq_true_iff (src : Config.LiveSrc) : liveSrcBit src = true ↔ src = .dec := by
  cases src <;> decide

/-- The fields of STATUS from bit 0 up; every other bit is 0 (R38). -/
def statusBits (s : State) : List Bool :=
  [s.statusLive, s.lastV, s.dutyV[0], s.dutyV[1], s.dutyV[2], liveSrcBit s.liveSrc, gate s]

/-- STATUS built up one bit at a time, so that the library's lemmas on `BitVec.concat` read it. -/
theorem statusWord_getLsbD_concat (s : State) (j : Nat) :
    (statusWord s).getLsbD j =
      ((((((((0#25).concat (gate s)).concat (liveSrcBit s.liveSrc)).concat s.dutyV[2]).concat s.dutyV[1]).concat
        s.dutyV[0]).concat s.lastV).concat s.statusLive).getLsbD j := rfl

theorem statusWord_getLsbD (s : State) (j : Nat) : (statusWord s).getLsbD j = (statusBits s)[j]?.getD false := by
  rw [statusWord_getLsbD_concat]
  match j with
  | 0 | 1 | 2 | 3 | 4 | 5 | 6 | _ + 7 => simp [statusBits]

/-- The MAP word of the channel that feeds slot `k` of unit `u` packs `u` above `k` (R37, R141). -/
theorem mapWord_mapInv_toNat : ∀ (u : UnitId) (k : SlotId), (mapWord (mapInv u k)).toNat = 16 * u.val + k.val := by
  decide

end Sys2Proof.Machine

open Sys2Proof Sys2Proof.Machine

/-- Settles O33: a number in a register's place is that register's, so RD answers its value, and the bits of STATUS and the
MAP words are as R38 and R141 say; a reserved number answers 0. -/
theorem readPortAnswersByNumber : Obligations.ReadPortAnswersByNumber := by
  intro r s
  refine ⟨readPort s r, exec_rd r s, fun i h => ?ch, fun i h => ?cmd, fun l h => ?fsd, fun u k h => ?duty, fun h => ?idx,
    fun h => ?status, readPort_of_toNat_eq s .last, readPort_of_toNat_eq s .now, readPort_of_toNat_eq s .timeout,
    readPort_of_toNat_eq s .params, fun u k h => ?map, readPort_reserved s⟩
  case ch =>
    rw [readPort_of_toNat_eq s (.ch i) (h.trans (regNumber_ch_toNat i).symm)]
    exact BitVec.toNat_setWidth_of_le (by decide)
  case cmd =>
    rw [readPort_of_toNat_eq s (.cmd i) (h.trans (regNumber_cmd_toNat i).symm)]
    exact BitVec.toNat_setWidth_of_le (by decide)
  case fsd =>
    rw [readPort_of_toNat_eq s (.fsd l) (h.trans (regNumber_fsd_toNat l).symm)]
    exact BitVec.toNat_setWidth_of_le (by decide)
  case duty =>
    rw [readPort_of_toNat_eq s (.duty u k) (h.trans (regNumber_duty_toNat u k).symm)]
    exact BitVec.toNat_setWidth_of_le (by decide)
  case idx =>
    rw [readPort_of_toNat_eq s .idx h]
    exact Nat.mod_eq_of_lt (by omega)
  case status =>
    simp only [readPort_of_toNat_eq s .status h, regValue, statusWord_getLsbD, ← liveSrcBit_eq_true_iff]
    exact ⟨rfl, rfl, rfl, rfl, rfl, Iff.rfl, rfl, fun j hj => by rw [List.getElem?_eq_none hj]; rfl⟩
  case map =>
    rw [readPort_of_toNat_eq s (.map (mapInv u k)) (h.trans (regNumber_map_toNat _).symm)]
    exact mapWord_mapInv_toNat u k
end

section
/-! The header words of 30_encoding.md R71 to R87: what the decoder reads in a word, as the encoder's own header words and
R84's list say it, and from this the statements about the opcode map, the INVALID set, the length and INVALID words. -/

namespace Sys2Proof

/-! ### Fields and slices (R10, R71) -/

/-- A slice of a word is the number of the field of the same bits. -/
theorem fieldAt_toNat_eq_slice (w : EventWord) (hi lo : Nat) : (fieldAt w lo (hi + 1 - lo)).toNat = slice w hi lo :=
  fieldAt_toNat ..

theorem fieldAt_eq_zero_iff (w : EventWord) (hi lo : Nat) : fieldAt w lo (hi + 1 - lo) = 0 ↔ slice w hi lo = 0 := by
  rw [← fieldAt_toNat_eq_slice]; exact BitVec.toNat_inj.symm

theorem fieldAt_eq_of_toNat {w : EventWord} {n lo len : Nat} {v : BitVec len} (hw : w.toNat = n)
    (hv : n / 2 ^ lo % 2 ^ len = v.toNat) : fieldAt w lo len = v :=
  BitVec.eq_of_toNat_eq (by rw [fieldAt_toNat, hw, hv])

/-! ### What a header word reads as (R73, R84) -/

/-- The meaning of a decoded header, by the encoder's words and R84's list: a one-word operation stands in the word that
encodes it, a command header is the one of R75, and the word that is refused is in the INVALID set. -/
def HeaderReads (w : EventWord) : Header → Prop
  | .single i => encodeData i = [] ∧ w = encodeHeader i
  | .command => w = validCmdHeader
  | .invalid _ => HeaderInvalid w

/-- A set reserved bit of a format makes the header INVALID (R84 b). -/
theorem headerInvalid_of_reservedBit {w : EventWord} {op hi lo : Nat} (hf : (op, hi, lo) ∈ reservedSlices)
    (hop : slice w 31 28 = op) (hbit : fieldAt w lo (hi + 1 - lo) ≠ 0) : HeaderInvalid w :=
  .inr (.inl ⟨(op, hi, lo), hf, hop, mt (fieldAt_eq_zero_iff w hi lo).mpr hbit⟩)

/-- A format whose only demand is that its reserved slice is 0 reads as R84 (b) and the operation's header word say. -/
theorem singleIfClear_reads {w : EventWord} {i : Instr} {op : Nat} (hi lo : Nat) (hf : (op, hi, lo) ∈ reservedSlices)
    (hop : slice w 31 28 = op) (hd : encodeData i = []) (hw : slice w hi lo = 0 → w.toNat = (encodeHeader i).toNat) :
    HeaderReads w (singleIfClear (fieldAt w lo (hi + 1 - lo) == 0) i) := by
  unfold singleIfClear
  split
  case isTrue h => exact ⟨hd, BitVec.eq_of_toNat_eq (hw ((fieldAt_eq_zero_iff w hi lo).mp (eq_of_beq h)))⟩
  case isFalse h => exact headerInvalid_of_reservedBit hf hop (by simpa using h)

theorem decodeTick_reads {w : EventWord} (hop : slice w 31 28 = 3) : HeaderReads w (decodeTick w) := by
  have hunit : (fieldAt w 0 2).toNat = slice w 1 0 := fieldAt_toNat_eq_slice w 1 0
  unfold decodeTick
  split
  case isFalse hres => exact headerInvalid_of_reservedBit (hi := 27) (by decide) hop hres
  case isTrue hres =>
    replace hres := (fieldAt_eq_zero_iff w 27 2).mp hres
    split
    case isTrue =>
      refine ⟨rfl, BitVec.eq_of_toNat_eq ?_⟩
      rw [encodeHeader_tick_toNat, Fin.val_mk, hunit]
      unfold slice at *
      omega
    case isFalse =>
      refine .inr (.inr (.inl ⟨hop, ?_⟩))
      unfold slice at *
      omega

theorem decodeCommandHeader_reads {w : EventWord} (hop : slice w 31 28 = 2) :
    HeaderReads w (decodeCommandHeader w) := by
  have hcount : fieldAt w 0 4 = 8 ↔ slice w 3 0 = 8 := by
    rw [← fieldAt_toNat_eq_slice]; exact BitVec.toNat_inj.symm
  unfold decodeCommandHeader
  split
  case isFalse hres => exact headerInvalid_of_reservedBit (hi := 27) (by decide) hop hres
  case isTrue hres =>
    replace hres := (fieldAt_eq_zero_iff w 27 4).mp hres
    split
    case isFalse h => exact .inr (.inr (.inr ⟨hop, mt hcount.mpr h⟩))
    case isTrue h =>
      replace h := hcount.mp h
      refine BitVec.eq_of_toNat_eq (y := validCmdHeader) (?_ : _ = 0x20000008)
      unfold slice at *
      omega

/-- The decoder reads every header word as R73 and R84 say. -/
theorem decodeHeader_reads {w : EventWord} {h : Header} (hd : decodeHeader w = h) : HeaderReads w h := by
  subst hd
  have hfield : (fieldAt w 28 4).toNat = slice w 31 28 := fieldAt_toNat_eq_slice w 31 28
  unfold decodeHeader
  rw [hfield]
  split
  next hop => -- EDGE
    refine singleIfClear_reads 23 16 (by decide) hop rfl fun hres => ?_
    rw [encodeHeader_edge_toNat, fieldAt_toNat, fieldAt_toNat]
    unfold slice at *
    omega
  next hop => exact decodeCommandHeader_reads hop
  next hop => exact decodeTick_reads hop
  next hop => -- SUPV
    refine singleIfClear_reads 27 0 (by decide) hop rfl fun hres => (?_ : _ = 0x40000000)
    unfold slice at *
    omega
  next hop => -- PUB
    refine singleIfClear_reads 27 1 (by decide) hop rfl fun hres => ?_
    have hbuf : (w.getLsbD 0).toNat = slice w 0 0 := Nat.toNat_testBit w.toNat 0
    rw [encodeHeader_pub_toNat, hbuf]
    unfold slice at *
    omega
  next hop => -- TIME
    refine ⟨rfl, BitVec.eq_of_toNat_eq ?_⟩
    rw [encodeHeader_time_toNat, fieldAt_toNat]
    unfold slice at *
    omega
  next hop => -- RD
    refine singleIfClear_reads 27 8 (by decide) hop rfl fun hres => ?_
    rw [encodeHeader_rd_toNat, fieldAt_toNat]
    unfold slice at *
    omega
  next hop => -- RST
    refine singleIfClear_reads 27 0 (by decide) hop rfl fun hres => (?_ : _ = 0xF0000000)
    unfold slice at *
    omega
  next => -- a reserved operation code
    have hop : slice w 31 28 < 16 := Nat.mod_lt _ (by decide)
    refine .inl ?_
    unfold HasReservedOp
    simp only [imp_false] at *
    omega

/-! ### The three readings of a header word -/

/-- The encoder writes no INVALID header (R84). -/
theorem not_headerInvalid_encodeHeader (i : Instr) : ¬ HeaderInvalid (encodeHeader i) :=
  match i with
  | .edge line width => (Laws.Encoding.edge line width).1
  | .cmd v => (Laws.Encoding.cmd v).1
  | .tick u => (Laws.Encoding.tick u).1
  | .supv => Laws.Encoding.supv.1
  | .pub buf => (Laws.Encoding.pub buf).1
  | .time dt => (Laws.Encoding.time dt).1
  | .rd reg => (Laws.Encoding.rd reg).1
  | .rst => Laws.Encoding.rst.1

theorem not_headerInvalid_validCmdHeader : ¬ HeaderInvalid validCmdHeader := by decide

/-- The decoder refuses a header word exactly by R84 (a) to (d). -/
theorem decodeHeader_invalid_iff (w : EventWord) : (∃ why, decodeHeader w = .invalid why) ↔ HeaderInvalid w := by
  refine ⟨fun ⟨_, hd⟩ => decodeHeader_reads hd, fun hinvalid => ?_⟩
  cases hd : decodeHeader w with
  | single i => exact absurd ((decodeHeader_reads hd).2 ▸ hinvalid) (not_headerInvalid_encodeHeader i)
  | command => exact absurd (decodeHeader_reads hd ▸ hinvalid) not_headerInvalid_validCmdHeader
  | invalid why => exact ⟨why, rfl⟩

/-- The only header of a command is that of R75. -/
theorem decodeHeader_command_iff (w : EventWord) : decodeHeader w = .command ↔ w = validCmdHeader :=
  ⟨decodeHeader_reads, fun hw => by rw [hw]; decide⟩

/-- The operation of a one-word header is the one the header word encodes. -/
theorem decodeHeader_encodeHeader {i : Instr} (hi : encodeData i = []) : decodeHeader (encodeHeader i) = .single i := by
  cases i with
  | edge line width =>
    have hl := line.isLt
    have hw := width.isLt
    have h := encodeHeader_edge_toNat line width
    have hop : fieldAt (encodeHeader (.edge line width)) 28 4 = 1 := fieldAt_eq_of_toNat h (by simp; omega)
    have hres : fieldAt (encodeHeader (.edge line width)) 16 8 = 0 := fieldAt_eq_of_toNat h (by simp; omega)
    have hline : fieldAt (encodeHeader (.edge line width)) 24 4 = line := fieldAt_eq_of_toNat h (by omega)
    have hwidth : fieldAt (encodeHeader (.edge line width)) 0 16 = width := fieldAt_eq_of_toNat h (by omega)
    simp [decodeHeader, hop, hres, hline, hwidth, singleIfClear]
  | cmd v => simp [encodeData] at hi
  | tick u => revert u; decide
  | supv => decide
  | pub buf => revert buf; decide
  | time dt =>
    have hlt := dt.isLt
    have h := encodeHeader_time_toNat dt
    have hop : fieldAt (encodeHeader (.time dt)) 28 4 = 6 := fieldAt_eq_of_toNat h (by simp; omega)
    have hdt : fieldAt (encodeHeader (.time dt)) 0 28 = dt := fieldAt_eq_of_toNat h (by omega)
    simp [decodeHeader, hop, hdt]
  | rd reg =>
    have hlt := reg.isLt
    have h := encodeHeader_rd_toNat reg
    have hop : fieldAt (encodeHeader (.rd reg)) 28 4 = 7 := fieldAt_eq_of_toNat h (by simp; omega)
    have hres : fieldAt (encodeHeader (.rd reg)) 8 20 = 0 := fieldAt_eq_of_toNat h (by simp; omega)
    have hreg : fieldAt (encodeHeader (.rd reg)) 0 8 = reg := fieldAt_eq_of_toNat h (by omega)
    simp [decodeHeader, hop, hres, hreg, singleIfClear]
  | rst => decide

theorem decodeHeader_single_iff (w : EventWord) {i : Instr} (hi : encodeData i = []) :
    decodeHeader w = .single i ↔ w = encodeHeader i :=
  ⟨fun hd => (decodeHeader_reads hd).2, fun hw => hw ▸ decodeHeader_encodeHeader hi⟩

/-! ### The masks of the opcode map (R73) -/

theorem append_inj_iff {n m : Nat} {a c : BitVec n} {b d : BitVec m} : a ++ b = c ++ d ↔ a = c ∧ b = d := by
  refine ⟨fun h => ?_, fun ⟨hac, hbd⟩ => by rw [hac, hbd]⟩
  have ha := congrArg (BitVec.extractLsb' m n) h
  have hb := congrArg (BitVec.extractLsb' 0 m) h
  rw [BitVec.extractLsb'_append_eq_left, BitVec.extractLsb'_append_eq_left] at ha
  rw [BitVec.extractLsb'_append_eq_right, BitVec.extractLsb'_append_eq_right] at hb
  exact ⟨ha, hb⟩

/-- A mask test made of two mask tests, one above the other, is met by the words made of two parts that meet them. -/
theorem and_append_eq_iff {n m : Nat} (w : BitVec (n + m)) (a c : BitVec n) (b d : BitVec m) :
    w &&& (a ++ b) = c ++ d ↔ ∃ x y, w = x ++ y ∧ x &&& a = c ∧ y &&& b = d := by
  constructor
  · intro h
    have hw : w = w.extractLsb' m n ++ w.extractLsb' 0 m := BitVec.extractLsb'_append_extractLsb'.symm
    rw [hw, BitVec.and_append, append_inj_iff] at h
    exact ⟨_, _, hw, h⟩
  · rintro ⟨x, y, rfl, rfl, rfl⟩
    exact BitVec.and_append

/-- A mask of the high bits selects the words that begin with the match, whatever the operand below it. -/
theorem and_highMask_eq_iff {n m : Nat} (w : BitVec (n + m)) (c : BitVec n) :
    w &&& (BitVec.allOnes n ++ 0#m) = c ++ 0#m ↔ ∃ y : BitVec m, w = c ++ y := by
  simp [and_append_eq_iff]

/-- The mask of a format without operand selects one word. -/
theorem and_fullMask_eq_iff (w c : EventWord) : w &&& 0xFFFFFFFF = c ↔ w = c :=
  iff_of_eq (congrArg (· = c) BitVec.and_allOnes)

/-- EDGE has an operand on each side of its reserved bits, so its mask is taken apart twice (R74). -/
theorem exists_encodeHeader_edge_iff (w : EventWord) :
    (∃ line width, w = encodeHeader (.edge line width)) ↔ w &&& 0xF0FF0000 = 0x10000000 := by
  have hparts := and_append_eq_iff (n := 4 + 4 + 8) (m := 16) w (BitVec.allOnes 4 ++ 0#4 ++ BitVec.allOnes 8)
    (0x1#4 ++ 0#4 ++ 0#8) 0#16 0#16
  simp only [and_append_eq_iff, BitVec.and_allOnes] at hparts
  refine Iff.trans ⟨?_, ?_⟩ hparts.symm
  · rintro ⟨line, width, rfl⟩
    exact ⟨_, _, rfl, ⟨_, _, rfl, ⟨_, _, rfl, rfl, BitVec.and_zero⟩, rfl⟩, BitVec.and_zero⟩
  · rintro ⟨_, width, rfl, ⟨_, _, rfl, ⟨_, line, rfl, rfl, -⟩, rfl⟩, -⟩
    exact ⟨line, width, rfl⟩

theorem exists_encodeHeader_tick_iff (w : EventWord) :
    (∃ u, w = encodeHeader (.tick u)) ↔ w &&& 0xFFFFFFFC = 0x30000000 ∧ w &&& 0x3 ≠ 0x3 := by
  have hunit : ∀ y : BitVec 2, (0x3#4 ++ 0#26 ++ y) &&& 0x3#32 ≠ 0x3 ↔
      ∃ u, 0x3#4 ++ 0#26 ++ y = encodeHeader (.tick u) := by decide
  refine Iff.trans ?_ (and_congr_left' (and_highMask_eq_iff (n := 30) (m := 2) w (0x3#4 ++ 0#26)).symm)
  constructor
  · rintro ⟨u, rfl⟩
    exact ⟨⟨_, rfl⟩, (hunit _).mpr ⟨u, rfl⟩⟩
  · rintro ⟨⟨y, rfl⟩, hne⟩
    exact (hunit y).mp hne

theorem exists_encodeHeader_pub_iff (w : EventWord) :
    (∃ buf, w = encodeHeader (.pub buf)) ↔ w &&& 0xFFFFFFFE = 0x50000000 := by
  have hbuf : Function.Surjective BitVec.ofBool := by unfold Function.Surjective; decide
  exact hbuf.exists.symm.trans (and_highMask_eq_iff (n := 31) (m := 1) w (0x5#4 ++ 0#27)).symm

theorem exists_encodeHeader_time_iff (w : EventWord) :
    (∃ dt, w = encodeHeader (.time dt)) ↔ w &&& 0xF0000000 = 0x60000000 :=
  (and_highMask_eq_iff (n := 4) (m := 28) w 0x6#4).symm

theorem exists_encodeHeader_rd_iff (w : EventWord) :
    (∃ reg, w = encodeHeader (.rd reg)) ↔ w &&& 0xFFFFFF00 = 0x70000000 :=
  (and_highMask_eq_iff (n := 24) (m := 8) w (0x7#4 ++ 0#20)).symm

/-! ### Streams whose head is INVALID (R84 to R86) -/

/-- An INVALID header word is refused alone, whatever follows (R85). -/
theorem decode_headerInvalid {w : EventWord} (hw : HeaderInvalid w) (rest : List EventWord) :
    ∃ why, decode (w :: rest) = .invalid why rest := by
  obtain ⟨why, hd⟩ := (decodeHeader_invalid_iff w).mpr hw
  exact ⟨why, by simp [decode, hd]⟩

/-- A CMD that the stream cuts short is refused with all of it (R86). -/
theorem decode_truncatedCommand {rest : List EventWord} (hrest : rest.length < 4) :
    decode (validCmdHeader :: rest) = .invalid .truncatedCommand [] := by
  have hd := (decodeHeader_command_iff validCmdHeader).mpr rfl
  obtain ⟨i, hi, -⟩ | ⟨d0, d1, d2, d3, rest', -, rfl, -⟩ | ⟨-, -, h⟩ | ⟨why, hi, -⟩ :=
    decode_cons_cases validCmdHeader rest
  · simp [hd] at hi
  · simp at hrest; omega
  · exact h
  · simp [hd] at hi

end Sys2Proof

namespace Sys2Proof.Machine

/-- A step on words that the decoder refuses absorbs them (R85). -/
theorem step_of_decode_invalid {s : State} {why : InvalidReason} {rest : List EventWord}
    (h : decode s.stream = .invalid why rest) : step s = .next (absorbInvalid rest s) := by
  simp [step, h]

end Sys2Proof.Machine

open Sys2Proof Sys2Proof.Machine

/-- Settles O3: a refused stream begins with an INVALID header or is a command cut short, and these are refused. -/
theorem decoderRefusesExactlyTheInvalidSet : Obligations.DecoderRefusesExactlyTheInvalidSet := by
  intro w rest
  constructor
  · rintro ⟨why, left, h⟩
    obtain ⟨i, -, hd⟩ | ⟨d0, d1, d2, d3, rest', -, -, hd⟩ | ⟨hcmd, hshort, -⟩ | ⟨why', hinvalid, -⟩ :=
      decode_cons_cases w rest
    · simp [hd] at h
    · simp [hd] at h
    · exact .inr ⟨(decodeHeader_command_iff w).mp hcmd, hshort⟩
    · exact .inl ((decodeHeader_invalid_iff w).mp ⟨why', hinvalid⟩)
  · rintro (hinvalid | ⟨rfl, hshort⟩)
    · obtain ⟨why, hd⟩ := decode_headerInvalid hinvalid rest
      exact ⟨why, rest, hd⟩
    · exact ⟨_, _, decode_truncatedCommand hshort⟩

/-- Settles O4: a header selects a row iff it is a header word that the encoder writes for it, and so say the row's mask and
match. -/
theorem headersFollowTheOpcodeMap : Obligations.HeadersFollowTheOpcodeMap := by
  intro w
  refine ⟨?edge, ?cmd, ?tick, ?supv, ?pub, ?time, ?rd, ?rst⟩
  case edge => exact (exists₂_congr fun _ _ => decodeHeader_single_iff w rfl).trans (exists_encodeHeader_edge_iff w)
  case cmd => exact (decodeHeader_command_iff w).trans (and_fullMask_eq_iff w _).symm
  case tick => exact (exists_congr fun _ => decodeHeader_single_iff w rfl).trans (exists_encodeHeader_tick_iff w)
  case supv => exact (decodeHeader_single_iff w rfl).trans (and_fullMask_eq_iff w _).symm
  case pub => exact (exists_congr fun _ => decodeHeader_single_iff w rfl).trans (exists_encodeHeader_pub_iff w)
  case time => exact (exists_congr fun _ => decodeHeader_single_iff w rfl).trans (exists_encodeHeader_time_iff w)
  case rd => exact (exists_congr fun _ => decodeHeader_single_iff w rfl).trans (exists_encodeHeader_rd_iff w)
  case rst => exact (decodeHeader_single_iff w rfl).trans (and_fullMask_eq_iff w _).symm

/-- Settles O5: of the decoder's four answers, those that do not leave the rest whole have the valid CMD header. -/
theorem headerAloneTellsTheLength : Obligations.HeaderAloneTellsTheLength := by
  intro w rest left i why
  rw [show (0x20000008 : EventWord) = validCmdHeader from rfl, ne_eq, ← decodeHeader_command_iff]
  obtain ⟨j, hj, hd⟩ | ⟨d0, d1, d2, d3, rest', hj, rfl, hd⟩ | ⟨hj, -, hd⟩ | ⟨why', hj, hd⟩ :=
    decode_cons_cases w rest
  all_goals rw [hd]
  · refine ⟨?_, nofun⟩
    rintro ⟨⟩
    simp [hj]
  · refine ⟨?_, nofun⟩
    rintro ⟨⟩
    exact ⟨fun _ => ⟨by simp only [List.length_cons]; omega, rfl⟩, fun hne => absurd hj hne⟩
  · exact ⟨nofun, fun _ hne => absurd hj hne⟩
  · refine ⟨nofun, ?_⟩
    rintro ⟨⟩ -
    rfl

/-- Settles O9: the decoder refuses the word alone, and a step absorbs what the decoder refuses. -/
theorem invalidWordHasNoEffect : Obligations.InvalidWordHasNoEffect := by
  intro s w rest hs hw
  obtain ⟨why, hd⟩ := decode_headerInvalid hw rest
  exact step_of_decode_invalid (hs ▸ hd)

/-- Settles O10: the decoder refuses the header with all the words after it, and a step absorbs them. -/
theorem truncatedCommandIsConsumedWhole : Obligations.TruncatedCommandIsConsumedWhole := by
  intro s rest hs hshort
  exact step_of_decode_invalid (hs ▸ decode_truncatedCommand hshort)
end

section
/-! The pulse decoder of 40_pulse_decoder.md: what an in-band store leaves in the frame (R102, R103), the frame that a run
of in-band edges fills entry by entry, and from these the statements about one edge and about `C` edges (R111). -/

namespace Sys2Proof.Machine

/-! ### One store at the cursor (R102, R103) -/

theorem storeAtCursor_ch_of_eq (w : PulseWidth) {s : State} {k : FrameIndex} (hk : k = s.idx) :
    (storeAtCursor w s).ch[k] = w := by
  subst hk; exact Vector.getElem_set_self _

/-- The frame condition of R102: no entry but the one at the cursor changes. -/
theorem storeAtCursor_ch_of_ne (w : PulseWidth) {s : State} {k : FrameIndex} (hk : k ≠ s.idx) :
    (storeAtCursor w s).ch[k] = s.ch[k] :=
  Vector.getElem_set_ne s.idx.isLt k.isLt (Fin.val_ne_of_ne hk.symm)

/-! ### A run of in-band edges (R111) -/

/-- The first `n` widths of `widths` stand in CH from cursor `k` on, and the cursor is `n` places past `k`. -/
structure FilledFrom (k : FrameIndex) (widths : Frame) (n : Nat) (t : State) : Prop where
  cursor : t.idx.val = (k.val + n) % 8
  stored : ∀ i : FrameIndex, i.val < n → t.ch[k + i] = widths[i]

theorem filledFrom_zero (widths : Frame) (s : State) : FilledFrom s.idx widths 0 s :=
  ⟨(Nat.mod_eq_of_lt s.idx.isLt).symm, nofun⟩

/-- The next width goes to the next entry, which is none of those already filled while fewer than `C` are. -/
theorem FilledFrom.storeAtCursor_succ {k : FrameIndex} {widths : Frame} {i : FrameIndex} {t : State}
    (h : FilledFrom k widths i.val t) : FilledFrom k widths (i.val + 1) (storeAtCursor widths[i] t) := by
  have hcursor : k + i = t.idx := Fin.ext (h.cursor ▸ Fin.val_add k i)
  refine ⟨?_, fun j hj => ?_⟩
  · simp [nextCursor, h.cursor, Nat.add_assoc]
  · obtain rfl | hne := eq_or_ne j i
    · exact storeAtCursor_ch_of_eq _ hcursor
    · have hlt : j.val < i.val := Nat.lt_of_le_of_ne (Nat.le_of_lt_succ hj) (Fin.val_ne_of_ne hne)
      have hother : k + j ≠ t.idx := hcursor ▸ mt (add_left_cancel (a := k)) hne
      rw [storeAtCursor_ch_of_ne _ hother, h.stored j hlt]

theorem FilledFrom.refreshLiveness {k : FrameIndex} {widths : Frame} {n : Nat} {t : State}
    (h : FilledFrom k widths n t) : FilledFrom k widths n (refreshLiveness t) := ⟨h.cursor, h.stored⟩

/-- The first `n` of eight in-band edges fill the first `n` entries from the cursor on. -/
theorem runOps_take_edges_filledFrom (lines : Vector (BitVec 4) 8) {widths : Frame} (s : State)
    (hw : ∀ i : FrameIndex, inBand widths[i] = true) {n : Nat} (hn : n ≤ 8) :
    ∃ t, runOps (((List.finRange 8).take n).map fun i => .edge lines[i] widths[i]) s = .next t ∧
      FilledFrom s.idx widths n t := by
  induction n with
  | zero => exact ⟨s, rfl, filledFrom_zero widths s⟩
  | succ n ih =>
    obtain ⟨t, hrun, hfilled⟩ := ih (Nat.le_of_succ_le hn)
    have htake : (List.finRange 8).take (n + 1) = (List.finRange 8).take n ++ [⟨n, hn⟩] := by
      rw [List.take_succ_eq_append_getElem (by simpa using hn), List.getElem_finRange]; rfl
    refine ⟨_, ?_, (hfilled.storeAtCursor_succ (i := ⟨n, hn⟩)).refreshLiveness⟩
    rw [htake, List.map_append, runOps_append hrun]
    exact runOps_cons (exec_edge_inBand _ t (hw ⟨n, hn⟩))

/-- Eight in-band edges fill the whole frame from the cursor on. -/
theorem runOps_edges_filledFrom (lines : Vector (BitVec 4) 8) {widths : Frame} (s : State)
    (hw : ∀ i : FrameIndex, inBand widths[i] = true) :
    ∃ t, runOps ((List.finRange 8).map fun i => .edge lines[i] widths[i]) s = .next t ∧
      FilledFrom s.idx widths 8 t :=
  runOps_take_edges_filledFrom lines s hw le_rfl

namespace FilledFrom

variable {k : FrameIndex} {widths : Frame} {t : State}

theorem ch_get (h : FilledFrom k widths 8 t) (i : FrameIndex) : t.ch[k + i] = widths[i] := h.stored i i.isLt

/-- The cursor is back where the run began (R111). -/
theorem idx_eq (h : FilledFrom k widths 8 t) : t.idx = k :=
  Fin.ext (by rw [h.cursor, Nat.add_mod_right, Nat.mod_eq_of_lt k.isLt])

/-- A run that began at cursor 0 leaves the widths in arrival order (R111). -/
theorem ch_eq (h : FilledFrom 0 widths 8 t) : t.ch = widths :=
  Vector.ext fun i hi => by simpa using h.ch_get ⟨i, hi⟩

end FilledFrom

end Sys2Proof.Machine

open Sys2Proof Sys2Proof.Machine

/-- Settles O14: an edge stores at the cursor or resyncs it, by the band, and then refreshes liveness. -/
theorem edgeStoresOrResyncs : Obligations.EdgeStoresOrResyncs := by
  intro line width s
  cases hw : inBand width with
  | true =>
    have hin := (inBand_iff width).mp hw
    exact ⟨_, exec_edge_inBand line s hw, rfl,
      fun _ => ⟨storeAtCursor_ch_of_eq width rfl, fun _ hk => storeAtCursor_ch_of_ne width hk, rfl⟩,
      fun hout => by omega⟩
  | false =>
    have hout := (inBand_eq_false_iff width).mp hw
    exact ⟨_, exec_edge_outOfBand line s hw, rfl, fun hin => by omega, fun _ => ⟨rfl, rfl⟩⟩

/-- Settles O16: the eight edges fill the frame from the cursor on, by induction on how many have come; an out-of-band edge
resyncs. -/
theorem fullFrameFromAnyCursor : Obligations.FullFrameFromAnyCursor := by
  refine ⟨fun lines widths s hw => ?_, fun line width s hout => ?_⟩
  · obtain ⟨t, hrun, hfilled⟩ := runOps_edges_filledFrom lines s fun i => (inBand_iff _).mpr (hw i)
    exact ⟨t, hrun, hfilled.ch_get, hfilled.idx_eq, fun hzero => (hzero ▸ hfilled).ch_eq⟩
  · exact ⟨_, exec_edge_outOfBand line s ((inBand_eq_false_iff width).mpr hout), rfl, rfl⟩
end

section
/-! The failsafe gate of 41_failsafe_gate.md: the gate in natural numbers (R120, R122), what an input and the passing of time
do to the registers it reads, and from these the statements about SUPV (R130) and about the gate over a run (R123). -/

namespace Sys2Proof.Machine

/-! ### The gate's decision (R120, R122) -/

/-- The comparator with the subtraction in the order in which R120 writes it. -/
theorem isLive_iff_elapsed (now last timeout : Time) :
    isLive now last timeout = true ↔ (now.toNat + 2 ^ 32 - last.toNat) % 2 ^ 32 ≤ timeout.toNat := by
  rw [isLive_iff, Nat.add_sub_assoc last.isLt.le]

theorem gate_eq_true_iff (s : State) :
    gate s = true ↔ s.lastV = true ∧ isLive s.now s.last s.timeout = true := Bool.and_eq_true_iff

/-- `n` ticks after a timestamp the comparator sees `n` modulo `2^32`. -/
theorem isLive_add_iff (last timeout : Time) (n : Nat) :
    isLive (last + BitVec.ofNat 32 n) last timeout = true ↔ n % 2 ^ 32 ≤ timeout.toNat := by
  simp [isLive, elapsedBetween]

/-! ### Operations other than EDGE, CMD and RST let the gate age (R123) -/

theorem elapsedTicks_cons (i : Instr) (is : List Instr) :
    elapsedTicks (i :: is) = elapsedTicks [i] + elapsedTicks is := by
  cases i <;> simp [elapsedTicks]

/-- To the gate, `t` is `s` with `n` more ticks gone by: of the registers that R122 reads only NOW has moved. -/
structure Aged (n : Nat) (s t : State) : Prop where
  lastV : t.lastV = s.lastV
  last : t.last = s.last
  timeout : t.timeout = s.timeout
  now : t.now = s.now + BitVec.ofNat 32 n

namespace Aged

/-- Nothing that leaves the gate's registers alone ages it. -/
theorem of_now_eq {s t : State} (hv : t.lastV = s.lastV) (hl : t.last = s.last) (ht : t.timeout = s.timeout)
    (hn : t.now = s.now) : Aged 0 s t := ⟨hv, hl, ht, hn.trans (BitVec.add_zero _).symm⟩

theorem trans {m n : Nat} {s t u : State} (hst : Aged m s t) (htu : Aged n t u) : Aged (m + n) s u where
  lastV := htu.lastV.trans hst.lastV
  last := htu.last.trans hst.last
  timeout := htu.timeout.trans hst.timeout
  now := by rw [htu.now, hst.now, BitVec.ofNat_add, BitVec.add_assoc]

theorem gate_eq {s t : State} (h : Aged 0 s t) : gate t = gate s :=
  gate_congr h.lastV (h.now.trans (BitVec.add_zero _)) h.last h.timeout

/-- `n` ticks after the state with a timestamp taken just now, the gate compares `n` modulo `2^32` with TIMEOUT. -/
theorem gate_iff_of_fresh {n : Nat} {s t : State} (h : Aged n s t) (hv : s.lastV = true) (hl : s.last = s.now) :
    gate t = true ↔ n % 2 ^ 32 ≤ s.timeout.toNat := by
  rw [gate_eq_true_iff, h.lastV, h.last, h.timeout, h.now, hl, isLive_add_iff, and_iff_right hv]

end Aged

theorem exec_aged {i : Instr} (hin : isInput i = false) (hrst : i ≠ .rst) (s : State) :
    ∃ t, exec i s = .next t ∧ Aged (elapsedTicks [i]) s t := by
  cases i with
  | edge line width => cases hin
  | cmd v => cases hin
  | rst => exact absurd rfl hrst
  | time dt => exact ⟨_, exec_time dt s, rfl, rfl, rfl, by simp [elapsedTicks]⟩
  | tick u => exact ⟨_, exec_tick u s, .of_now_eq rfl rfl rfl rfl⟩
  | supv => exact ⟨_, exec_supv s, .of_now_eq rfl rfl rfl rfl⟩
  | rd reg => exact ⟨_, exec_rd reg s, .of_now_eq rfl rfl rfl rfl⟩
  | pub buf =>
    cases buf with
    | true => exact ⟨_, exec_pub_buffer s, .of_now_eq rfl rfl rfl rfl⟩
    | false => exact ⟨_, exec_pub_skip s, .of_now_eq rfl rfl rfl rfl⟩

/-- A run without EDGE, CMD and RST ages the gate by the sum of its DT. -/
theorem runOps_aged {ops : List Instr} (hops : ∀ i ∈ ops, isInput i = false ∧ i ≠ .rst) (s : State) :
    ∃ t, runOps ops s = .next t ∧ Aged (elapsedTicks ops) s t := by
  induction ops generalizing s with
  | nil => exact ⟨s, rfl, .of_now_eq rfl rfl rfl rfl⟩
  | cons i is ih =>
    obtain ⟨⟨hin, hrst⟩, his⟩ := List.forall_mem_cons.mp hops
    obtain ⟨u, hexec, hu⟩ := exec_aged hin hrst s
    obtain ⟨t, hrun, ht⟩ := ih his u
    exact ⟨t, (runOps_cons hexec).trans hrun, elapsedTicks_cons i is ▸ hu.trans ht⟩

/-- TICK, SUPV, PUB and RD take no time, and are neither input nor RST. -/
theorem isQuiet_takes_no_time {i : Instr} (h : isQuiet i = true) :
    isInput i = false ∧ i ≠ .rst ∧ elapsedTicks [i] = 0 := by
  cases i with
  | tick | supv | pub | rd => exact ⟨rfl, nofun, rfl⟩
  | edge | cmd | time | rst => cases h

/-! ### An input takes a timestamp (R106, R162) -/

theorem exec_input {i : Instr} (h : isInput i = true) (s : State) :
    ∃ t, exec i s = .next t ∧ t.lastV = true ∧ t.last = t.now ∧ t.timeout = s.timeout := by
  cases i with
  | edge line width =>
    cases hw : inBand width with
    | true => exact ⟨_, exec_edge_inBand line s hw, rfl, rfl, rfl⟩
    | false => exact ⟨_, exec_edge_outOfBand line s hw, rfl, rfl, rfl⟩
  | cmd v => exact ⟨_, exec_cmd v s, rfl, rfl, rfl⟩
  | tick | supv | pub | time | rd | rst => cases h

/-! ### Without an input there is no timestamp (R123 a) -/

/-- Power-on and RST leave no timestamp (R230, R185). -/
theorem lastV_after_reset {s : State} (h : s = State.reset ∨ ∃ s₀, exec .rst s₀ = .next s) : s.lastV = false := by
  obtain rfl | ⟨s₀, h⟩ := h
  · rfl
  · rw [exec_rst] at h
    cases h
    rfl

theorem exec_keeps_no_timestamp {i : Instr} {s : State} (hin : isInput i = false) (hs : s.lastV = false) :
    ∃ t, exec i s = .next t ∧ t.lastV = false := by
  by_cases hrst : i = .rst
  · subst hrst
    exact ⟨_, exec_rst s, rfl⟩
  · obtain ⟨t, hexec, ht⟩ := exec_aged hin hrst s
    exact ⟨t, hexec, ht.lastV.trans hs⟩

theorem runOps_keeps_no_timestamp {ops : List Instr} {s : State} (hops : ∀ i ∈ ops, isInput i = false)
    (hs : s.lastV = false) : ∃ t, runOps ops s = .next t ∧ t.lastV = false := by
  induction ops generalizing s with
  | nil => exact ⟨s, rfl, hs⟩
  | cons i is ih =>
    obtain ⟨hin, his⟩ := List.forall_mem_cons.mp hops
    obtain ⟨u, hexec, hu⟩ := exec_keeps_no_timestamp hin hs
    rw [runOps_cons hexec]
    exact ih his hu

end Sys2Proof.Machine

open Sys2Proof Sys2Proof.Machine

/-- Settles O26: no timestamp before an input, a fresh one right after it, and every other operation but RST ages the gate by
its DT. -/
theorem gateFollowsElapsedTime : Obligations.GateFollowsElapsedTime := by
  refine ⟨fun s ops hreset hops => ?beforeInput, fun s i ops hin hops => ?afterInput, fun s i hquiet => ?quiet⟩
  case beforeInput =>
    obtain ⟨t, hrun, ht⟩ := runOps_keeps_no_timestamp hops (lastV_after_reset hreset)
    exact ⟨t, hrun, gate_of_no_timestamp ht⟩
  case afterInput =>
    obtain ⟨u, hexec, hvalid, hfresh, htimeout⟩ := exec_input hin s
    obtain ⟨t, hrun, haged⟩ := runOps_aged hops u
    exact ⟨t, (runOps_cons hexec).trans hrun, htimeout ▸ haged.gate_iff_of_fresh hvalid hfresh⟩
  case quiet =>
    obtain ⟨hin, hrst, hzero⟩ := isQuiet_takes_no_time hquiet
    obtain ⟨t, hexec, haged⟩ := exec_aged hin hrst s
    exact ⟨t, hexec, (hzero ▸ haged).gate_eq⟩

/-- Settles O24: SUPV latches and emits the gate, which is the decision of R120 and R122 in natural numbers. -/
theorem supervisorLatchesTheGate : Obligations.SupervisorLatchesTheGate := by
  intro s
  exact ⟨_, exec_supv s, rfl, (gate_eq_true_iff s).trans (and_congr_right' (isLive_iff_elapsed ..)), rfl⟩
end

section
/-! The output mixer of 42_output_mixer.md: what applying a row leaves in DUTY and DUTY_V (R143), the state in which a unit
has just been ticked and which the quiet operations keep (R147), the gate after a silence (R149), and from these the
statements about TICK. -/

namespace Sys2Proof.Machine

/-! ### Applying a row (R143) -/

theorem applyRow_duty_self (u : UnitId) (row : UnitRow) (s : State) : (applyRow u row s).duty[u] = row :=
  Vector.getElem_set_self _

theorem applyRow_dutyV_self (u : UnitId) (row : UnitRow) (s : State) : (applyRow u row s).dutyV[u] = true :=
  Vector.getElem_set_self _

theorem applyRow_duty_of_ne {u v : UnitId} (hv : v ≠ u) (row : UnitRow) (s : State) :
    (applyRow u row s).duty[v] = s.duty[v] :=
  Vector.getElem_set_ne u.isLt v.isLt (Fin.val_ne_of_ne hv.symm)

theorem applyRow_dutyV_of_ne {u v : UnitId} (hv : v ≠ u) (row : UnitRow) (s : State) :
    (applyRow u row s).dutyV[v] = s.dutyV[v] :=
  Vector.getElem_set_ne u.isLt v.isLt (Fin.val_ne_of_ne hv.symm)

/-- Applying the row that a unit carries already changes nothing. -/
theorem applyRow_eq_self {u : UnitId} {row : UnitRow} {s : State} (hduty : s.duty[u] = row)
    (hdutyV : s.dutyV[u] = true) : applyRow u row s = s := by
  have hd : s.duty.set u row = s.duty := hduty ▸ Vector.set_getElem_self u.isLt
  have hv : s.dutyV.set u true = s.dutyV := hdutyV ▸ Vector.set_getElem_self u.isLt
  simp only [applyRow, hd, hv]

/-- What a TICK leaves in each slot of its unit (R142, R143). -/
theorem applyRow_sourceRow_duty (g : Bool) (u : UnitId) (s : State) (k : SlotId) :
    (applyRow u (sourceRow s g u) s).duty[u][k] = sourceValue s g (mapInv u k) := by
  rw [applyRow_duty_self, sourceRow_get]

/-! ### A unit that has just been ticked (R147) -/

/-- Unit `u` carries `row`, and `row` is what a TICK of `u` would apply. -/
structure Ticked (u : UnitId) (row : UnitRow) (s : State) : Prop where
  source : sourceRow s (gate s) u = row
  duty : s.duty[u] = row
  dutyV : s.dutyV[u] = true

namespace Ticked

variable {u : UnitId} {row : UnitRow} {s : State}

/-- Applying a row touches nothing that the gate and the source selection read. -/
theorem of_applyRow (u : UnitId) (s : State) :
    Ticked u (sourceRow s (gate s) u) (applyRow u (sourceRow s (gate s) u) s) :=
  ⟨rfl, applyRow_duty_self .., applyRow_dutyV_self ..⟩

theorem emit (h : Ticked u row s) (es : List Emission) : Ticked u row (emit es s) := ⟨h.source, h.duty, h.dutyV⟩

/-- A TICK of the same unit applies the same row again, and one of another unit leaves this one's row alone. -/
theorem applyRow (h : Ticked u row s) (v : UnitId) : Ticked u row (applyRow v (sourceRow s (gate s) v) s) := by
  obtain rfl | hne := eq_or_ne u v
  · rwa [applyRow_eq_self (h.duty.trans h.source.symm) h.dutyV]
  · exact ⟨h.source, (applyRow_duty_of_ne hne ..).trans h.duty, (applyRow_dutyV_of_ne hne ..).trans h.dutyV⟩

theorem exec_quiet (h : Ticked u row s) {i : Instr} (hi : isQuiet i = true) :
    ∃ t, exec i s = .next t ∧ Ticked u row t := by
  cases i with
  | tick v => exact ⟨_, exec_tick v s, (h.applyRow v).emit _⟩
  | supv => exact ⟨_, exec_supv s, h.source, h.duty, h.dutyV⟩
  | rd reg => exact ⟨_, exec_rd reg s, h.emit _⟩
  | pub buf =>
    cases buf with
    | true => exact ⟨_, exec_pub_buffer s, h.emit _⟩
    | false => exact ⟨_, exec_pub_skip s, h⟩
  | edge | cmd | time | rst => cases hi

theorem runOps_quiet {ops : List Instr} (h : Ticked u row s) (hops : ∀ i ∈ ops, isQuiet i = true) :
    ∃ t, runOps ops s = .next t ∧ Ticked u row t := by
  induction ops generalizing s with
  | nil => exact ⟨s, rfl, h⟩
  | cons i is ih =>
    obtain ⟨hi, his⟩ := List.forall_mem_cons.mp hops
    obtain ⟨t, hexec, ht⟩ := h.exec_quiet hi
    rw [runOps_cons hexec]
    exact ih ht his

/-- Ticked again, the unit emits its row and nothing changes. -/
theorem exec_tick_eq (h : Ticked u row s) :
    exec (.tick u) s = .next (Machine.emit (dutyEmissions u row) s) := by
  rw [exec_tick, h.source, applyRow_eq_self h.duty h.dutyV]

end Ticked

/-! ### A silence after an input (R149) -/

/-- No operation writes the configuration (R20, R64). -/
theorem exec_keeps_configuration {i : Instr} {s t : State} (h : exec i s = .next t) :
    t.fsd = s.fsd ∧ t.timeout = s.timeout ∧ t.liveSrc = s.liveSrc := by
  obtain ⟨l, w, rfl, hw, rfl⟩ | ⟨l, w, rfl, hw, rfl⟩ | ⟨v, rfl, rfl⟩ | ⟨u, rfl, rfl⟩ | ⟨rfl, rfl⟩ | ⟨rfl, rfl⟩ |
    ⟨rfl, rfl⟩ | ⟨dt, rfl, rfl⟩ | ⟨r, rfl, rfl⟩ | ⟨rfl, rfl⟩ := exec_cases h
  all_goals exact ⟨rfl, rfl, rfl⟩

theorem runOps_keeps_fsd {ops : List Instr} {s t : State} (h : runOps ops s = .next t) : t.fsd = s.fsd := by
  induction ops generalizing s with
  | nil => cases h; rfl
  | cons i is ih =>
    unfold runOps at h
    split at h
    next u hexec => exact (ih h).trans (exec_keeps_configuration hexec).1
    next => cases h
    next => cases h

/-- A run without EDGE and CMD ages the gate by the sum of its DT, unless an RST in it took the timestamp away. -/
theorem runOps_aged_or_no_timestamp {ops : List Instr} (hops : ∀ i ∈ ops, isInput i = false) (s : State) :
    ∃ t, runOps ops s = .next t ∧ (t.lastV = false ∨ Aged (elapsedTicks ops) s t) := by
  induction ops generalizing s with
  | nil => exact ⟨s, rfl, .inr (.of_now_eq rfl rfl rfl rfl)⟩
  | cons i is ih =>
    obtain ⟨hin, his⟩ := List.forall_mem_cons.mp hops
    obtain rfl | hrst := eq_or_ne i .rst
    · obtain ⟨t, hrun, ht⟩ := runOps_keeps_no_timestamp his (clearBlock_lastV s)
      exact ⟨t, (runOps_cons (exec_rst s)).trans hrun, .inl ht⟩
    · obtain ⟨u, hexec, hu⟩ := exec_aged hin hrst s
      obtain ⟨t, hrun, ht⟩ := ih his u
      exact ⟨t, (runOps_cons hexec).trans hrun, ht.imp_right fun haged => elapsedTicks_cons i is ▸ hu.trans haged⟩

/-- After an input and a silence longer than TIMEOUT that NOW can still count, the gate is false. -/
theorem gate_false_after_silence {i : Instr} {ops : List Instr} {s : State} (hin : isInput i = true)
    (hops : ∀ j ∈ ops, isInput j = false) (hstale : s.timeout.toNat < elapsedTicks ops)
    (hcount : elapsedTicks ops < 2 ^ 32) : ∃ t, runOps (i :: ops) s = .next t ∧ gate t = false := by
  obtain ⟨u, hexec, hvalid, hfresh, htimeout⟩ := exec_input hin s
  obtain ⟨t, hrun, hnone | haged⟩ := runOps_aged_or_no_timestamp hops u
  · exact ⟨t, (runOps_cons hexec).trans hrun, gate_of_no_timestamp hnone⟩
  · refine ⟨t, (runOps_cons hexec).trans hrun, ?_⟩
    rw [← Bool.not_eq_true, haged.gate_iff_of_fresh hvalid hfresh, htimeout, Nat.mod_eq_of_lt hcount]
    exact Nat.not_le_of_lt hstale

end Sys2Proof.Machine

open Sys2Proof Sys2Proof.Machine

/-- Settles O20: TICK applies the row of source values of the one gate value, and a source value is the live entry or the
default by R142's cases. -/
theorem tickAppliesOneDecisionToItsUnit : Obligations.TickAppliesOneDecisionToItsUnit := by
  intro u s
  refine ⟨_, exec_tick u s, rfl, fun k hk hgate => ?live, fun k hdefault => ?default, ?flag, fun v hv => ?others,
    ?emissions⟩
  case live =>
    rw [emit_duty, applyRow_sourceRow_duty, hgate, sourceValue_live s hk]
    exact ⟨fun hsrc => by simp only [liveArray, hsrc], fun hsrc => by simp only [liveArray, hsrc]⟩
  case default =>
    rw [emit_duty, applyRow_sourceRow_duty]
    obtain hgate | hunused := hdefault
    · rw [hgate, sourceValue_failsafe]
    · exact sourceValue_unused s _ hunused
  case flag => rw [emit_dutyV, applyRow_dutyV_self]
  case others =>
    rw [emit_duty, emit_dutyV]
    exact ⟨applyRow_duty_of_ne hv .., applyRow_dutyV_of_ne hv ..⟩
  case emissions => rw [emit_duty, applyRow_duty_self]; rfl

/-- Settles O22: the first TICK leaves the unit ticked, quiet operations keep it so, and the second TICK of a ticked unit
only emits its row again. -/
theorem tickIsIdempotent : Obligations.TickIsIdempotent := by
  intro u between s hquiet
  have hticked := (Ticked.of_applyRow u s).emit (dutyEmissions u (sourceRow s (gate s) u))
  obtain ⟨t₂, hrun, hticked₂⟩ := hticked.runOps_quiet hquiet
  exact ⟨_, t₂, _, _, exec_tick u s, hrun, hticked₂.exec_tick_eq, rfl, rfl, rfl⟩

/-- Settles O27: the silence closes the gate, by age or by RST, so TICK takes the defaults; where the age is back within
TIMEOUT modulo `2^32` the gate is open and TICK takes the live values. -/
theorem staleInputAppliesTheDefaults : Obligations.StaleInputAppliesTheDefaults := by
  refine ⟨fun s i ops u hin hops hstale hcount => ?stale, fun s i ops u hin hops _ halias => ?aliasing⟩
  case stale =>
    obtain ⟨t, hrun, hgate⟩ := gate_false_after_silence hin hops hstale hcount
    have hsource (k : SlotId) : sourceValue t (gate t) (mapInv u k) = s.fsd[mapInv u k] := by
      rw [hgate, sourceValue_failsafe, runOps_keeps_fsd hrun]
    refine ⟨t, _, hrun, exec_tick u t, fun k => ?_, ?_⟩
    · rw [emit_duty, applyRow_sourceRow_duty, hsource]
    · simp only [← hsource]
      rfl
  case aliasing =>
    obtain ⟨-, hafterInput, -⟩ := gateFollowsElapsedTime
    obtain ⟨t, hrun, hgate⟩ := hafterInput s i ops hin hops
    refine ⟨t, _, hrun, exec_tick u t, fun k hk => ?_⟩
    rw [emit_duty, applyRow_sourceRow_duty, hgate.mpr halias, sourceValue_live t hk]
end

section
/-! The two feeds of 43_feeds.md: the statements about CMD (R160) and PUB (R165), each from what exec answers for the
operation and the frame of the named operations in it. -/

open Sys2Proof Sys2Proof.Machine

/-- Settles O18: CMD is the whole-array store followed by the liveness refresh, and the refresh leaves the stored frame in
place. -/
theorem commandStoresTheWholeFrame : Obligations.CommandStoresTheWholeFrame := by
  intro v s
  have hstored : (refreshLiveness (storeCommand v s)).cmd = v := by
    rw [refreshLiveness_cmd, storeCommand_cmd]
  exact ⟨_, exec_cmd v s, rfl, fun k => by rw [hstored]⟩

/-- Settles O19: with a buffer PUB is the emission of CH, and without one the identity. -/
theorem publishEmitsTheDecodedFrame : Obligations.PublishEmitsTheDecodedFrame :=
  fun s => ⟨exec_pub_buffer s, exec_pub_skip s⟩
end

section
/-! The environment's operations of 44_environment_ops.md: where an operation and a run leave NOW, and from these the
statements about TIME (R180, R181) and RST (R185). -/

namespace Sys2Proof.Machine

/-- Every operation completes and moves NOW by its own DT: EDGE, CMD and RST, which may touch the gate's other registers,
leave NOW alone, and the rest only let the gate age. -/
theorem exec_now (i : Instr) (s : State) :
    ∃ t, exec i s = .next t ∧ t.now = s.now + BitVec.ofNat 32 (elapsedTicks [i]) := by
  have hstill : s.now = s.now + BitVec.ofNat 32 0 := (BitVec.add_zero _).symm
  cases i with
  | edge line width =>
    cases hw : inBand width with
    | true => exact ⟨_, exec_edge_inBand line s hw, hstill⟩
    | false => exact ⟨_, exec_edge_outOfBand line s hw, hstill⟩
  | cmd v => exact ⟨_, exec_cmd v s, hstill⟩
  | rst => exact ⟨_, exec_rst s, hstill⟩
  | tick | supv | pub | time | rd =>
    refine (exec_aged rfl ?notReset s).imp fun _ ⟨hexec, haged⟩ => ⟨hexec, haged.now⟩
    case notReset => nofun

theorem runOps_now (ops : List Instr) (s : State) :
    ∃ t, runOps ops s = .next t ∧ t.now = s.now + BitVec.ofNat 32 (elapsedTicks ops) := by
  induction ops generalizing s with
  | nil => exact ⟨s, rfl, (BitVec.add_zero _).symm⟩
  | cons i is ih =>
    obtain ⟨u, hexec, hu⟩ := exec_now i s
    obtain ⟨t, hrun, ht⟩ := ih u
    exact ⟨t, (runOps_cons hexec).trans hrun, by rw [ht, hu, elapsedTicks_cons i is, BitVec.ofNat_add, BitVec.add_assoc]⟩

end Sys2Proof.Machine

open Sys2Proof Sys2Proof.Machine

/-- Settles O31: each operation moves NOW by its own DT, and the DT of a run add up, by induction on the operations. -/
theorem nowMovesOnlyForwardByTime : Obligations.NowMovesOnlyForwardByTime := by
  intro ops s
  obtain ⟨t, hrun, hnow⟩ := runOps_now ops s
  exact ⟨t, hrun, by rw [hnow, BitVec.toNat_add, BitVec.toNat_ofNat, Nat.add_mod_mod]⟩

/-- Settles O30: TIME is the advance of NOW alone, and its 28 bits are extended without loss. -/
theorem timeAdvancesNow : Obligations.TimeAdvancesNow :=
  fun dt s => ⟨_, exec_time dt s, rfl, advanceTime_now_toNat dt s⟩

/-- Settles O34: RST is the clearing of the block, whose arrays are constantly 0 and whose flags are constantly false. -/
theorem resetOperationClearsTheBlock : Obligations.ResetOperationClearsTheBlock := by
  intro s
  refine ⟨_, exec_rst s, rfl, fun k => ⟨?ch, ?cmd⟩, fun u => ⟨?flag, fun k => ?duty⟩⟩
  case ch => rw [clearBlock_ch, Fin.getElem_fin, Vector.getElem_replicate]
  case cmd => rw [clearBlock_cmd, Fin.getElem_fin, Vector.getElem_replicate]
  case flag => rw [clearBlock_dutyV, Fin.getElem_fin, Vector.getElem_replicate]
  case duty => rw [clearBlock_duty, Fin.getElem_fin, Fin.getElem_fin, Vector.getElem_replicate, Vector.getElem_replicate]
end

section
/-! The errors of 60_exceptions.md: none of them stops the block (R200). What a step answers follows from what the decoder
answers, and each of the three answers leads to a next state. -/

namespace Sys2Proof.Machine

/-- With no word pending a step changes nothing (R41). -/
theorem step_of_decode_idle {s : State} (h : decode s.stream = .idle) : step s = .next s := by
  simp [step, h]

/-- A step on a decoded operation executes it, its words consumed (R59). -/
theorem step_of_decode_op {s : State} {i : Instr} {rest : List EventWord} (h : decode s.stream = .op i rest) :
    step s = exec i (consume rest s) := by
  simp [step, h]

theorem exec_completes (i : Instr) (s : State) : ∃ t, exec i s = .next t := by
  obtain ⟨t, hexec, -⟩ := exec_now i s
  exact ⟨t, hexec⟩

theorem step_completes (s : State) : ∃ t, step s = .next t := by
  cases hd : decode s.stream with
  | idle => exact ⟨s, step_of_decode_idle hd⟩
  | op i rest =>
    obtain ⟨t, hexec⟩ := exec_completes i (consume rest s)
    exact ⟨t, (step_of_decode_op hd).trans hexec⟩
  | invalid why rest => exact ⟨absorbInvalid rest s, step_of_decode_invalid hd⟩

end Sys2Proof.Machine

open Sys2Proof Sys2Proof.Machine

/-- Settles O11: every arm of exec answers a next state, and a step either runs one operation, rests or absorbs words. -/
theorem everyOperationCompletes : Obligations.EveryOperationCompletes :=
  ⟨exec_completes, step_completes⟩
end

section
/-! The boot behaviour of 70_reset_and_hazards.md: with the gate false TICK applies the defaults, and the gate stays false
from a reset until the first EDGE or CMD (R231). -/

namespace Sys2Proof.Machine

/-- With the gate false TICK leaves the default of its channel in every slot of the unit (R142, R143). -/
theorem exec_tick_of_gate_false {s : State} (u : UnitId) (h : gate s = false) :
    ∃ t, exec (.tick u) s = .next t ∧ ∀ k : SlotId, t.duty[u][k] = s.fsd[mapInv u k] :=
  ⟨_, exec_tick u s, fun k => by rw [emit_duty, applyRow_sourceRow_duty, h, sourceValue_failsafe]⟩

end Sys2Proof.Machine

open Sys2Proof Sys2Proof.Machine

/-- Settles O28: a reset leaves no timestamp and no operation but an input makes one, so the gate is false at the TICK; FSD
is still what it was at the reset, since no operation writes it. -/
theorem bootAppliesTheDefaults : Obligations.BootAppliesTheDefaults := by
  obtain ⟨hbeforeInput, -, -⟩ := gateFollowsElapsedTime
  refine ⟨rfl, fun s₀ => ⟨_, exec_rst s₀, clearBlock_emitted s₀, clearBlock_duty s₀⟩, fun s ops u hreset hops => ?_⟩
  obtain ⟨t, hrun, hgate⟩ := hbeforeInput s ops hreset hops
  obtain ⟨v, htick, hduty⟩ := exec_tick_of_gate_false u hgate
  exact ⟨t, v, hrun, hgate, htick, fun k => by rw [hduty, runOps_keeps_fsd hrun]⟩
end

section
/-! The round trips of 30_encoding.md: the halves of a CMD's data words (R76), what the decoder answers for the words of an
operation and which words it answers an operation for, and from these the statements about one spelling (R70, R84, R87). -/

namespace Sys2Proof

/-! ### The halves of a data word (R76) -/

theorem fieldAt_low_append (hi lo : PulseWidth) : fieldAt (hi ++ lo) 0 16 = lo := BitVec.extractLsb'_append_eq_right

theorem fieldAt_high_append (hi lo : PulseWidth) : fieldAt (hi ++ lo) 16 16 = hi := BitVec.extractLsb'_append_eq_left

theorem append_fieldAt_halves (d : EventWord) : fieldAt d 16 16 ++ fieldAt d 0 16 = d :=
  BitVec.extractLsb'_append_extractLsb'

/-- The four data words that the encoder writes for a frame hold that frame. -/
theorem frameOfWords_of_frame (v : Frame) :
    frameOfWords (v[1] ++ v[0]) (v[3] ++ v[2]) (v[5] ++ v[4]) (v[7] ++ v[6]) = v := by
  simp only [frameOfWords, fieldAt_low_append, fieldAt_high_append]
  refine Vector.ext fun i hi => ?_
  match i, hi with
  | 0, _ | 1, _ | 2, _ | 3, _ | 4, _ | 5, _ | 6, _ | 7, _ => rfl

/-- The encoder writes back the four data words from which a frame was read. -/
theorem encodeData_frameOfWords (d0 d1 d2 d3 : EventWord) :
    encodeData (.cmd (frameOfWords d0 d1 d2 d3)) = [d0, d1, d2, d3] := by
  show [fieldAt d0 16 16 ++ fieldAt d0 0 16, fieldAt d1 16 16 ++ fieldAt d1 0 16,
    fieldAt d2 16 16 ++ fieldAt d2 0 16, fieldAt d3 16 16 ++ fieldAt d3 0 16] = _
  simp only [append_fieldAt_halves]

/-! ### From an operation to its words and back -/

theorem decode_of_single {w : EventWord} {i : Instr} (h : decodeHeader w = .single i) (rest : List EventWord) :
    decode (w :: rest) = .op i rest := by
  simp [decode, h]

theorem decode_of_command {w : EventWord} (h : decodeHeader w = .command) (d0 d1 d2 d3 : EventWord)
    (rest : List EventWord) :
    decode (w :: d0 :: d1 :: d2 :: d3 :: rest) = .op (.cmd (frameOfWords d0 d1 d2 d3)) rest := by
  simp [decode, h, decodeCommandData]

/-- Every operation but CMD is its header word alone (R74, R77 to R82). -/
theorem encodeData_eq_nil_or_cmd (i : Instr) : encodeData i = [] ∨ ∃ v, i = .cmd v := by
  cases i with
  | cmd v => exact .inr ⟨v, rfl⟩
  | edge | tick | supv | pub | time | rd | rst => exact .inl rfl

theorem decode_encode_append (i : Instr) (rest : List EventWord) : decode (encode i ++ rest) = .op i rest := by
  obtain hone | ⟨v, rfl⟩ := encodeData_eq_nil_or_cmd i
  · rw [encode, hone]
    exact decode_of_single (decodeHeader_encodeHeader hone) rest
  · have hheader : decodeHeader (encodeHeader (.cmd v)) = .command := (decodeHeader_command_iff _).mpr rfl
    refine (decode_of_command hheader _ _ _ _ rest).trans ?_
    rw [frameOfWords_of_frame]

theorem eq_encode_append_of_decode {ws rest : List EventWord} {i : Instr} (h : decode ws = .op i rest) :
    ws = encode i ++ rest := by
  cases ws with
  | nil => cases h
  | cons w tail =>
    obtain ⟨j, hheader, hd⟩ | ⟨d0, d1, d2, d3, rest', hheader, rfl, hd⟩ | ⟨-, -, hd⟩ | ⟨why, -, hd⟩ :=
      decode_cons_cases w tail
    all_goals rw [hd] at h; cases h
    · obtain ⟨hone, hw⟩ := (decodeHeader_reads hheader : HeaderReads w (.single i))
      rw [encode, hone, hw]
      rfl
    · have hw : w = validCmdHeader := decodeHeader_reads hheader
      rw [encode, encodeData_frameOfWords, hw]
      rfl

end Sys2Proof

open Sys2Proof Sys2Proof.Machine

/-- Settles O1: a one-word operation is read from its header, and CMD from the halves of its four data words. -/
theorem decodeOfEncodeIsTheOperation : Obligations.DecodeOfEncodeIsTheOperation := decode_encode_append

/-- Settles O2: a header that reads as an operation is that operation's header word, and data words are the halves that the
frame was read from. -/
theorem eachOperationHasOneSpelling : Obligations.EachOperationHasOneSpelling :=
  fun _ _ _ => eq_encode_append_of_decode

/-- Settles O6: each of the nine closed words by evaluating the decoder on it. -/
theorem specWordsDecodeToTheirOperations : Obligations.SpecWordsDecodeToTheirOperations := by
  refine ⟨?_, ?_, ?_, ?_, ?_, ?_, ?_, ?_, ?_⟩ <;> decide
end

section
/-! The step of 00_scope.md R13 and 20_memory.md R59 over the words to come: what operations and steps do to the stream, and
from this the statements about one step and about as many steps as there are operations or words. -/

namespace Sys2Proof.Machine

/-! ### The words to come -/

/-- No operation touches the words to come: with the same words delivered again the answer is the same state. -/
theorem exec_keeps_stream {i : Instr} {s t : State} (h : exec i s = .next t) : t.stream = s.stream := by
  have hsame : t = consume s.stream t := Host.Outcome.next.inj (h.symm.trans (exec_consume s.stream h))
  exact (congrArg State.stream hsame).trans (consume_stream ..)

/-- A step takes at least one pending word, INVALID words too (R85, R87). -/
theorem step_shortens_stream {s t : State} (h : step s = .next t) (hs : s.stream ≠ []) :
    t.stream.length < s.stream.length := by
  obtain ⟨hempty, -⟩ | ⟨i, rest, hd, hexec⟩ | ⟨why, rest, hd, rfl⟩ := step_cases h
  · exact absurd hempty hs
  · rw [exec_keeps_stream hexec]
    exact decode_op_shortens hd
  · exact decode_invalid_shortens hd

theorem step_of_empty {s : State} (h : s.stream = []) : step s = .next s :=
  step_of_decode_idle ((decode_eq_idle_iff _).mpr h)

/-- Enough steps empty the stream; steps to spare find it empty and rest. -/
theorem runSteps_empties_stream {n : Nat} {s : State} (h : s.stream.length ≤ n) :
    ∃ t, runSteps n s = .next t ∧ t.stream = [] := by
  induction n generalizing s with
  | zero => exact ⟨s, rfl, List.length_eq_zero_iff.mp (Nat.le_zero.mp h)⟩
  | succ n ih =>
    obtain ⟨u, hstep⟩ := step_completes s
    rw [runSteps_succ hstep]
    refine ih ?_
    by_cases hs : s.stream = []
    · cases (step_of_empty hs).symm.trans hstep
      simp [hs]
    · exact Nat.le_of_lt_succ ((step_shortens_stream hstep hs).trans_le h)

/-- A step on the words of an operation executes it and leaves the words after them. -/
theorem step_encode_append (i : Instr) (rest : List EventWord) (s : State) :
    step (consume (encode i ++ rest) s) = exec i (consume rest s) :=
  step_of_decode_op (decode_encode_append i rest)

theorem runSteps_encoded (ops : List Instr) (rest : List EventWord) (s : State) :
    runSteps ops.length (consume ((ops.map encode).flatten ++ rest) s) = runOps ops (consume rest s) := by
  induction ops generalizing s with
  | nil => rfl
  | cons i is ih =>
    obtain ⟨t, hexec⟩ := exec_completes i s
    have hstep := (step_encode_append i ((is.map encode).flatten ++ rest) s).trans (exec_consume _ hexec)
    rw [List.map_cons, List.flatten_cons, List.append_assoc, List.length_cons, runSteps_succ hstep, ih t,
      runOps_cons (exec_consume rest hexec)]

end Sys2Proof.Machine

open Sys2Proof Sys2Proof.Machine

/-- Settles O12: each step decodes the next operation of the stream and executes it, by induction on the operations. -/
theorem stepsRunTheEncodedOperations : Obligations.StepsRunTheEncodedOperations := runSteps_encoded

/-- Settles O13: a step on pending words shortens them, by induction on the number of steps. -/
theorem everyStreamIsConsumed : Obligations.EveryStreamIsConsumed := fun _ => runSteps_empties_stream le_rfl

/-- Settles O7: consuming the words is all that a step does before it executes the operation. -/
theorem stepRunsTheDecodedOperation : Obligations.StepRunsTheDecodedOperation := fun _ _ _ => step_of_decode_op

/-- Settles O8: the empty stream is the one that decodes to nothing. -/
theorem stepRestsOnAnEmptyStream : Obligations.StepRestsOnAnEmptyStream := fun _ => step_of_empty
end

section
/-! The invariants of 10_state.md R42 and of log entry 15: what a step keeps follows from what every operation keeps and from
what leaves the block alone; each invariant holds of a cleared block, hence at reset and after RST, and the named operations
keep it. -/

namespace Sys2Proof.Machine

/-- A step keeps what every operation keeps and what does not depend on the words to come and on the refusal mark. -/
theorem step_keeps {P : State → Prop} (hconsume : ∀ rest s, P s → P (consume rest s))
    (habsorb : ∀ rest s, P s → P (absorbInvalid rest s)) (hexec : ∀ i s t, P s → exec i s = .next t → P t)
    {s t : State} (hs : P s) (h : step s = .next t) : P t := by
  obtain ⟨-, rfl⟩ | ⟨i, rest, -, hop⟩ | ⟨why, rest, -, rfl⟩ := step_cases h
  · exact hs
  · exact hexec i _ t (hconsume rest s hs) hop
  · exact habsorb rest s hs

/-- No step writes the configuration (R42 e, R64). -/
theorem step_keeps_configuration {s t : State} (h : step s = .next t) :
    t.fsd = s.fsd ∧ t.timeout = s.timeout ∧ t.liveSrc = s.liveSrc := by
  obtain ⟨-, rfl⟩ | ⟨i, rest, -, hop⟩ | ⟨why, rest, -, rfl⟩ := step_cases h
  · exact ⟨rfl, rfl, rfl⟩
  · exact exec_keeps_configuration (s := consume rest s) hop
  · exact ⟨rfl, rfl, rfl⟩

/-! ### The decoded frame (R42 b) -/

/-- An in-band store keeps every entry of CH 0 or a decoded width. -/
theorem storeAtCursor_decoded {w : PulseWidth} {s : State} (hw : inBand w = true)
    (hs : ∀ k : FrameIndex, DecodedOrZero s.ch[k]) (k : FrameIndex) : DecodedOrZero (storeAtCursor w s).ch[k] := by
  obtain heq | hne := eq_or_ne k s.idx
  · rw [storeAtCursor_ch_of_eq w heq]
    exact .inr ((inBand_iff w).mp hw)
  · rw [storeAtCursor_ch_of_ne w hne]
    exact hs k

/-! ### The cleared block (R185, R230) -/

theorem clearBlock_ch_get (s : State) (k : FrameIndex) : (clearBlock s).ch[k] = 0 := Vector.getElem_replicate ..

theorem clearBlock_cmd_get (s : State) (k : FrameIndex) : (clearBlock s).cmd[k] = 0 := Vector.getElem_replicate ..

theorem clearBlock_dutyV_get (s : State) (u : UnitId) : (clearBlock s).dutyV[u] = false := Vector.getElem_replicate ..

theorem clearBlock_duty_get (s : State) (u : UnitId) (k : SlotId) : (clearBlock s).duty[u][k] = 0 := by
  simp

/-- Power-on is a cleared block too. -/
theorem clearBlock_reset : clearBlock State.reset = State.reset := rfl

/-! ### The invariant of R42 -/

theorem blockInv_clearBlock (s : State) : BlockInv (clearBlock s) where
  decoded k := .inl (clearBlock_ch_get s k)
  untouched _ := ⟨clearBlock_last s, clearBlock_ch_get s, clearBlock_cmd_get s, clearBlock_idx s⟩
  unapplied u _ := clearBlock_duty_get s u

/-- After an input LAST_V is 1, and (c) asks nothing. -/
theorem blockInv_refreshLiveness {s : State} (hdecoded : ∀ k : FrameIndex, DecodedOrZero s.ch[k])
    (hunapplied : ∀ u : UnitId, s.dutyV[u] = false → ∀ k : SlotId, s.duty[u][k] = 0) :
    BlockInv (refreshLiveness s) :=
  ⟨hdecoded, nofun, hunapplied⟩

theorem BlockInv.emit {s : State} (h : BlockInv s) (es : List Emission) : BlockInv (emit es s) :=
  ⟨h.decoded, h.untouched, h.unapplied⟩

theorem BlockInv.applyRow {s : State} (h : BlockInv s) (u : UnitId) (row : UnitRow) : BlockInv (applyRow u row s) where
  decoded := h.decoded
  untouched := h.untouched
  unapplied v hv := by
    obtain rfl | hne := eq_or_ne v u
    · rw [applyRow_dutyV_self] at hv
      cases hv
    · rw [applyRow_dutyV_of_ne hne] at hv
      rw [applyRow_duty_of_ne hne]
      exact h.unapplied v hv

theorem exec_keeps_blockInv {i : Instr} {s t : State} (h : BlockInv s) (hexec : exec i s = .next t) : BlockInv t := by
  obtain ⟨l, w, -, hw, rfl⟩ | ⟨l, w, -, hw, rfl⟩ | ⟨v, -, rfl⟩ | ⟨u, -, rfl⟩ | ⟨-, rfl⟩ | ⟨-, rfl⟩ |
    ⟨-, rfl⟩ | ⟨dt, -, rfl⟩ | ⟨r, -, rfl⟩ | ⟨-, rfl⟩ := exec_cases hexec
  · exact blockInv_refreshLiveness (storeAtCursor_decoded hw h.decoded) h.unapplied
  · exact blockInv_refreshLiveness h.decoded h.unapplied
  · exact blockInv_refreshLiveness h.decoded h.unapplied
  · exact (h.applyRow u _).emit _
  · exact ⟨h.decoded, h.untouched, h.unapplied⟩
  · exact h.emit _
  · exact h
  · exact ⟨h.decoded, h.untouched, h.unapplied⟩
  · exact h.emit _
  · exact blockInv_clearBlock s

theorem step_keeps_blockInv {s t : State} (h : BlockInv s) (hstep : step s = .next t) : BlockInv t :=
  step_keeps (fun _ _ hs => ⟨hs.decoded, hs.untouched, hs.unapplied⟩)
    (fun _ _ hs => ⟨hs.decoded, hs.untouched, hs.unapplied⟩) (fun _ _ _ => exec_keeps_blockInv) h hstep

/-! ### What the outputs can show (log entry 15) -/

theorem outputInv_clearBlock (s : State) : OutputInv (clearBlock s) where
  decoded k := .inl (clearBlock_ch_get s k)
  statusNeedsInput hlive := nomatch (clearBlock_statusLive s).symm.trans hlive
  unusedChannel u _ happlied := nomatch (clearBlock_dutyV_get s u).symm.trans happlied
  decodedRange _ u _ happlied := nomatch (clearBlock_dutyV_get s u).symm.trans happlied

/-- After an input LAST_V is 1, as a LIVE status asks. -/
theorem OutputInv.refreshLiveness {s s' : State} (h : OutputInv s) (hdecoded : ∀ k : FrameIndex, DecodedOrZero s'.ch[k])
    (hduty : s'.duty = s.duty) (hdutyV : s'.dutyV = s.dutyV) (hfsd : s'.fsd = s.fsd) (hsrc : s'.liveSrc = s.liveSrc) :
    OutputInv (refreshLiveness s') where
  decoded := hdecoded
  statusNeedsInput _ := refreshLiveness_lastV s'
  unusedChannel := by simpa [hduty, hdutyV, hfsd] using h.unusedChannel
  decodedRange := by simpa [hduty, hdutyV, hfsd, hsrc] using h.decodedRange

/-- With `LIVE_SRC = DEC` a source value is an entry of CH or the channel's default (R142). -/
theorem sourceValue_decoded_or_default {s : State} (hdecoded : ∀ k : FrameIndex, DecodedOrZero s.ch[k])
    (hsrc : s.liveSrc = .dec) (g : Bool) (l : LogicalChannel) :
    DecodedOrZero (sourceValue s g l) ∨ sourceValue s g l = s.fsd[l] := by
  obtain hused | hunused := Nat.lt_or_ge l.val 8
  · cases g with
    | false => exact .inr (sourceValue_failsafe s l)
    | true =>
      have hlive : liveArray s = s.ch := by simp only [liveArray, hsrc]
      simp only [sourceValue_live s hused, hlive]
      exact .inl (hdecoded ⟨l.val, hused⟩)
  · exact .inr (sourceValue_unused s g hunused)

theorem OutputInv.emit {s : State} (h : OutputInv s) (es : List Emission) : OutputInv (emit es s) :=
  ⟨h.decoded, h.statusNeedsInput, h.unusedChannel, h.decodedRange⟩

/-- A TICK puts source values in the slots of its unit and leaves those of the others alone (R142, R143). -/
theorem OutputInv.applyRow_sourceRow {s : State} (h : OutputInv s) (g : Bool) (u : UnitId) :
    OutputInv (applyRow u (sourceRow s g u) s) where
  decoded := h.decoded
  statusNeedsInput := h.statusNeedsInput
  unusedChannel v k happlied hunused := by
    obtain rfl | hne := eq_or_ne v u
    · rw [applyRow_sourceRow_duty]
      exact sourceValue_unused s g hunused
    · rw [applyRow_dutyV_of_ne hne] at happlied
      rw [applyRow_duty_of_ne hne]
      exact h.unusedChannel v k happlied hunused
  decodedRange hsrc v k happlied := by
    obtain rfl | hne := eq_or_ne v u
    · rw [applyRow_sourceRow_duty]
      exact sourceValue_decoded_or_default h.decoded hsrc g (mapInv v k)
    · rw [applyRow_dutyV_of_ne hne] at happlied
      rw [applyRow_duty_of_ne hne]
      exact h.decodedRange hsrc v k happlied

theorem exec_keeps_outputInv {i : Instr} {s t : State} (h : OutputInv s) (hexec : exec i s = .next t) :
    OutputInv t := by
  obtain ⟨l, w, -, hw, rfl⟩ | ⟨l, w, -, hw, rfl⟩ | ⟨v, -, rfl⟩ | ⟨u, -, rfl⟩ | ⟨-, rfl⟩ | ⟨-, rfl⟩ |
    ⟨-, rfl⟩ | ⟨dt, -, rfl⟩ | ⟨r, -, rfl⟩ | ⟨-, rfl⟩ := exec_cases hexec
  · exact h.refreshLiveness (storeAtCursor_decoded hw h.decoded) rfl rfl rfl rfl
  · exact h.refreshLiveness h.decoded rfl rfl rfl rfl
  · exact h.refreshLiveness h.decoded rfl rfl rfl rfl
  · exact (h.applyRow_sourceRow (gate s) u).emit _
  · exact ⟨h.decoded, fun hgate => ((gate_eq_true_iff s).mp hgate).1, h.unusedChannel, h.decodedRange⟩
  · exact h.emit _
  · exact h
  · exact ⟨h.decoded, h.statusNeedsInput, h.unusedChannel, h.decodedRange⟩
  · exact h.emit _
  · exact outputInv_clearBlock s

theorem step_keeps_outputInv {s t : State} (h : OutputInv s) (hstep : step s = .next t) : OutputInv t :=
  step_keeps (fun _ _ hs => ⟨hs.decoded, hs.statusNeedsInput, hs.unusedChannel, hs.decodedRange⟩)
    (fun _ _ hs => ⟨hs.decoded, hs.statusNeedsInput, hs.unusedChannel, hs.decodedRange⟩)
    (fun _ _ _ => exec_keeps_outputInv) h hstep

end Sys2Proof.Machine

open Sys2Proof Sys2Proof.Machine

/-- Settles O37: every operation keeps (b) to (d) and the configuration, an INVALID word touches none of what they speak of,
and (a) holds by the type of the cursor. -/
theorem everyStepKeepsTheBlockInvariant : Obligations.EveryStepKeepsTheBlockInvariant :=
  fun _ t hs hstep => ⟨Nat.le_of_lt_succ t.idx.isLt, step_keeps_blockInv hs hstep, step_keeps_configuration hstep⟩

/-- Settles O39: a TICK applies source values, which are decoded widths or defaults, and SUPV latches a gate that is true
only with a timestamp. -/
theorem everyStepKeepsTheOutputInvariant : Obligations.EveryStepKeepsTheOutputInvariant :=
  fun _ _ => step_keeps_outputInv

/-- Settles O36: power-on is a cleared block. -/
theorem blockInvariantHoldsAtReset : Obligations.BlockInvariantHoldsAtReset := by
  rw [Obligations.BlockInvariantHoldsAtReset, ← clearBlock_reset]
  exact blockInv_clearBlock _

/-- Settles O38: power-on is a cleared block. -/
theorem outputInvariantHoldsAtReset : Obligations.OutputInvariantHoldsAtReset := by
  rw [Obligations.OutputInvariantHoldsAtReset, ← clearBlock_reset]
  exact outputInv_clearBlock _

/-- Settles O35: power-on is a cleared block, and RST clears the block without touching the other fields. -/
theorem powerOnAndResetOperationAgree : Obligations.PowerOnAndResetOperationAgree :=
  ⟨fun k => ⟨clearBlock_ch_get State.reset k, clearBlock_cmd_get State.reset k⟩, rfl, rfl, rfl, rfl,
    fun u => ⟨clearBlock_dutyV_get State.reset u, clearBlock_duty_get State.reset u⟩, exec_rst⟩
end

section
/-! The line of an EDGE and the sync pulse of 40_pulse_decoder.md R105, R107: the statements about EDGE that stand on the
resync and on the run of `C` edges from any cursor. -/

open Sys2Proof Sys2Proof.Machine

/-- Settles O17: the sync pulse resyncs the cursor, and from cursor 0 eight in-band edges fill the frame in arrival order. -/
theorem syncPulseAlignsTheFrame : Obligations.SyncPulseAlignsTheFrame := by
  intro line sync lines widths s hsync hw
  have hresync := exec_edge_outOfBand line s ((inBand_eq_false_iff sync).mpr hsync)
  obtain ⟨t, hrun, hfilled⟩ := runOps_edges_filledFrom lines (refreshLiveness (resyncCursor s))
    fun i => (inBand_iff _).mpr (hw i)
  exact ⟨t, (runOps_cons hresync).trans hrun, hfilled.ch_eq, hfilled.idx_eq⟩

/-- Settles O15: in band or out, what EDGE does names no line. -/
theorem edgeIgnoresTheLine : Obligations.EdgeIgnoresTheLine := by
  intro line line' width s
  cases hw : inBand width with
  | true => rw [exec_edge_inBand line s hw, exec_edge_inBand line' s hw]
  | false => rw [exec_edge_outOfBand line s hw, exec_edge_outOfBand line' s hw]
end

section
/-! The gate's decision and the channel map by its numbers, and what the latched status cannot reach (41_failsafe_gate.md
R120, R122, R128, R132; 42_output_mixer.md R141). -/

namespace Sys2Proof.Machine

/-! ### The row of a unit, whole (R142, R143) -/

theorem sourceRow_failsafe (s : State) (u : UnitId) :
    sourceRow s false u = #v[s.fsd[mapInv u 0], s.fsd[mapInv u 1], s.fsd[mapInv u 2], s.fsd[mapInv u 3]] := by
  simp only [sourceRow, sourceValue_failsafe]

theorem sourceRow_unused (s : State) (g : Bool) {u : UnitId} (h : ∀ k : SlotId, 8 ≤ (mapInv u k).val) :
    sourceRow s g u = #v[s.fsd[mapInv u 0], s.fsd[mapInv u 1], s.fsd[mapInv u 2], s.fsd[mapInv u 3]] := by
  simp only [sourceRow, sourceValue_unused s g (h _)]

theorem sourceRow_live (s : State) {u : UnitId} (h : ∀ k : SlotId, (mapInv u k).val < 8) :
    sourceRow s true u =
      #v[(liveArray s)[mapInv u 0]'(h 0), (liveArray s)[mapInv u 1]'(h 1), (liveArray s)[mapInv u 2]'(h 2),
        (liveArray s)[mapInv u 3]'(h 3)] := by
  simp only [sourceRow, sourceValue_live s (h _)]
  rfl

/-- A TICK leaves its unit with the row of source values (R143). -/
theorem exec_tick_row (u : UnitId) (s : State) :
    ∃ t, exec (.tick u) s = .next t ∧ t.duty[u] = sourceRow s (gate s) u :=
  ⟨_, exec_tick u s, applyRow_duty_self ..⟩

/-! ### Two states that differ in the latched status and in what was emitted (R132) -/

/-- `s` with another latched status and another output. -/
def withStatus (b : Bool) (es : List Emission) (s : State) : State := { s with statusLive := b, emitted := es }

@[simp] theorem withStatus_emitted (b : Bool) (es : List Emission) (s : State) : (withStatus b es s).emitted = es := rfl

@[simp] theorem withStatus_ch (b : Bool) (es : List Emission) (s : State) : (withStatus b es s).ch = s.ch := rfl

@[simp] theorem gate_withStatus (b : Bool) (es : List Emission) (s : State) : gate (withStatus b es s) = gate s := rfl

@[simp] theorem sourceRow_withStatus (b : Bool) (es : List Emission) (s : State) (g : Bool) (u : UnitId) :
    sourceRow (withStatus b es s) g u = sourceRow s g u := rfl

/-- No operation reads the latched status or the output for anything but RD's answer, which is no duty emission. -/
theorem exec_withStatus {i : Instr} {s t : State} {es : List Emission} (b : Bool)
    (hes : es.filter isDuty = s.emitted.filter isDuty) (h : exec i s = .next t) :
    ∃ b' es', exec i (withStatus b es s) = .next (withStatus b' es' t) ∧
      es'.filter isDuty = t.emitted.filter isDuty := by
  obtain ⟨l, w, rfl, hw, rfl⟩ | ⟨l, w, rfl, hw, rfl⟩ | ⟨v, rfl, rfl⟩ | ⟨u, rfl, rfl⟩ | ⟨rfl, rfl⟩ | ⟨rfl, rfl⟩ |
    ⟨rfl, rfl⟩ | ⟨dt, rfl, rfl⟩ | ⟨r, rfl, rfl⟩ | ⟨rfl, rfl⟩ := exec_cases h
  · exact ⟨b, es, exec_edge_inBand l _ hw, hes⟩
  · exact ⟨b, es, exec_edge_outOfBand l _ hw, hes⟩
  · exact ⟨b, es, exec_cmd v _, hes⟩
  · exact ⟨b, _, exec_tick u _, by simp [hes]⟩
  · exact ⟨_, _, exec_supv _, by simp [hes]⟩
  · exact ⟨b, _, exec_pub_buffer _, by simp [hes]⟩
  · exact ⟨b, es, exec_pub_skip _, hes⟩
  · exact ⟨b, es, exec_time dt _, hes⟩
  · exact ⟨b, _, exec_rd r _, by simp [hes, isDuty]⟩
  · exact ⟨_, es, exec_rst _, hes⟩

theorem runOps_withStatus (ops : List Instr) {s : State} {es : List Emission} (b : Bool)
    (hes : es.filter isDuty = s.emitted.filter isDuty) :
    ∃ t b' es', runOps ops s = .next t ∧ runOps ops (withStatus b es s) = .next (withStatus b' es' t) ∧
      es'.filter isDuty = t.emitted.filter isDuty := by
  induction ops generalizing s b es with
  | nil => exact ⟨s, b, es, rfl, rfl, hes⟩
  | cons i is ih =>
    obtain ⟨u, hexec⟩ := exec_completes i s
    obtain ⟨b', es', hexec', hes'⟩ := exec_withStatus b hes hexec
    rw [runOps_cons hexec, runOps_cons hexec']
    exact ih b' hes'

end Sys2Proof.Machine

open Sys2Proof Sys2Proof.Machine

/-- Settles O29: every operation keeps two states equal but for the latched status and emissions that apply no duty, by
induction on the operations. -/
theorem statusNeverReachesTheOutputs : Obligations.StatusNeverReachesTheOutputs := by
  intro ops s b
  obtain ⟨t, b', es', hrun, hrun', hduty⟩ := runOps_withStatus ops (s := s) b rfl
  exact ⟨t, withStatus b' es' t, hrun, hrun', rfl, hduty⟩

/-- Settles O21: each unit's row is the source values of its channels, of which those of unit B have no live value. -/
theorem unitsOwnTheChannelsOfTheMap : Obligations.UnitsOwnTheChannelsOfTheMap := by
  intro s
  obtain ⟨a, ha, harow⟩ := exec_tick_row 0 s
  obtain ⟨b, hb, hbrow⟩ := exec_tick_row 1 s
  obtain ⟨c, hc, hcrow⟩ := exec_tick_row 2 s
  refine ⟨a, b, c, ha, hb, hc, fun hgate hsrc => ?decoded, fun hgate hsrc => ?commanded, fun hgate => ?failsafe, ?unused⟩
  case decoded =>
    have hlive : liveArray s = s.ch := by simp only [liveArray, hsrc]
    rw [hgate, sourceRow_live s (by decide)] at harow hcrow
    exact hlive ▸ ⟨harow, hcrow⟩
  case commanded =>
    have hlive : liveArray s = s.cmd := by simp only [liveArray, hsrc]
    rw [hgate, sourceRow_live s (by decide)] at harow hcrow
    exact hlive ▸ ⟨harow, hcrow⟩
  case failsafe =>
    rw [hgate, sourceRow_failsafe] at harow hcrow
    exact ⟨harow, hcrow⟩
  case unused => exact hbrow.trans (sourceRow_unused s (gate s) (by decide))

/-- Settles O23: the comparator's subtraction is modulo `2^32`, and the gate is its conjunction with LAST_V. -/
theorem gateComparesElapsedTimeModulo : Obligations.GateComparesElapsedTimeModulo :=
  ⟨isLive_iff_elapsed, gate_eq_true_iff⟩

/-- Settles O25: an input takes a timestamp, and a timestamp taken now is live for every timeout. -/
theorem oneInputRestoresLive : Obligations.OneInputRestoresLive := by
  intro i s hin
  obtain ⟨t, hexec, hvalid, hfresh, -⟩ := exec_input hin s
  exact ⟨t, hexec, (gate_eq_true_iff t).mpr ⟨hvalid, hfresh ▸ isLive_self ..⟩⟩
end

section
/-! WAIT of 30_encoding.md R89: a run of TIME operations advances NOW by the sum of their DT and does nothing else, and the
DT of the expansion add up to the operand. -/

namespace Sys2Proof.Machine

theorem elapsedTicks_append (is js : List Instr) : elapsedTicks (is ++ js) = elapsedTicks is + elapsedTicks js := by
  induction is with
  | nil => simp [elapsedTicks]
  | cons i is ih => rw [List.cons_append, elapsedTicks_cons, ih, elapsedTicks_cons i is, Nat.add_assoc]

theorem elapsedTicks_time (dt : BitVec 28) : elapsedTicks [.time dt] = dt.toNat := rfl

theorem elapsedTicks_replicate_time (n : Nat) (dt : BitVec 28) :
    elapsedTicks (List.replicate n (.time dt)) = n * dt.toNat := by
  induction n with
  | zero => simp [elapsedTicks]
  | succ n ih => rw [List.replicate_succ, elapsedTicks_cons, ih, elapsedTicks_time, Nat.succ_mul, Nat.add_comm]

/-- A run of TIME operations alone is one advance of NOW (R180, R181). -/
theorem runOps_times {ops : List Instr} (hops : ∀ i ∈ ops, ∃ dt, i = .time dt) (s : State) :
    runOps ops s = .next { s with now := s.now + BitVec.ofNat 32 (elapsedTicks ops) } := by
  induction ops generalizing s with
  | nil => simp [elapsedTicks]
  | cons i is ih =>
    obtain ⟨⟨dt, rfl⟩, his⟩ := List.forall_mem_cons.mp hops
    rw [runOps_cons (exec_time dt s), ih his, elapsedTicks_cons, elapsedTicks_time, BitVec.ofNat_add, ← BitVec.add_assoc,
      BitVec.ofNat_toNat]
    rfl

theorem waitOps_times (dt : Time) : ∀ i ∈ waitOps dt, ∃ d, i = .time d := by
  intro i hi
  obtain hwhole | hrest := List.mem_append.mp hi
  · exact ⟨_, List.eq_of_mem_replicate hwhole⟩
  · split at hrest
    · cases hrest
    · exact ⟨_, List.mem_singleton.mp hrest⟩

/-- The remainder is left out only where it is 0, so the whole words and the remainder make up `dt` (R89). -/
theorem elapsedTicks_waitOps (dt : Time) : elapsedTicks (waitOps dt) = dt.toNat := by
  have hdiv : dt.toNat / maxAdvance * maxAdvance + dt.toNat % maxAdvance = dt.toNat := Nat.div_add_mod' ..
  have hmod : dt.toNat % maxAdvance < 2 ^ 28 := (Nat.mod_lt _ (by decide)).trans (by decide)
  have hmax : (BitVec.ofNat 28 maxAdvance).toNat = maxAdvance := rfl
  rw [waitOps, elapsedTicks_append, elapsedTicks_replicate_time, hmax]
  split
  case isTrue hzero => rw [hzero.1] at hdiv; exact hdiv
  case isFalse => rw [elapsedTicks_time, BitVec.toNat_ofNat, Nat.mod_eq_of_lt hmod]; exact hdiv

end Sys2Proof.Machine

open Sys2Proof Sys2Proof.Machine

/-- Settles O32: the expansion of WAIT is TIME operations whose DT add up to the operand. -/
theorem waitAdvancesByItsDuration : Obligations.WaitAdvancesByItsDuration := by
  intro dt s
  rw [runOps_times (waitOps_times dt), elapsedTicks_waitOps, BitVec.ofNat_toNat, BitVec.setWidth_eq]
end

section
/-! The agents and their rights of 60_exceptions.md R213: which elements each named operation leaves alone, which emissions an
operation makes, what those and the elements written are made from, and from these the statement about every operation. -/

namespace Sys2Proof.Machine

theorem agreeOn.trans {s t u : State} {e : Element} (hst : agreeOn s t e) (htu : agreeOn t u e) : agreeOn s u e := by
  cases e <;> exact Eq.trans hst htu

/-! ### The elements that a named operation leaves alone -/

section Frame

variable (s : State) {e : Element}

theorem agreeOn_refl : agreeOn s s e := by
  cases e <;> rfl

theorem agreeOn_emit (es : List Emission) : agreeOn s (emit es s) e := by
  cases e <;> rfl

theorem agreeOn_refreshLiveness (hlast : e ≠ .last) (hlastV : e ≠ .lastV) : agreeOn s (refreshLiveness s) e := by
  cases e with
  | last => exact absurd rfl hlast
  | lastV => exact absurd rfl hlastV
  | ch | cmd | idx | statusLive | duty | dutyV | now | fsd | timeout | liveSrc => rfl

theorem agreeOn_storeAtCursor (w : PulseWidth) (hch : e ≠ .ch) (hidx : e ≠ .idx) :
    agreeOn s (storeAtCursor w s) e := by
  cases e with
  | ch => exact absurd rfl hch
  | idx => exact absurd rfl hidx
  | cmd | last | lastV | statusLive | duty | dutyV | now | fsd | timeout | liveSrc => rfl

theorem agreeOn_resyncCursor (hidx : e ≠ .idx) : agreeOn s (resyncCursor s) e := by
  cases e with
  | idx => exact absurd rfl hidx
  | ch | cmd | last | lastV | statusLive | duty | dutyV | now | fsd | timeout | liveSrc => rfl

theorem agreeOn_storeCommand (v : Frame) (hcmd : e ≠ .cmd) : agreeOn s (storeCommand v s) e := by
  cases e with
  | cmd => exact absurd rfl hcmd
  | ch | idx | last | lastV | statusLive | duty | dutyV | now | fsd | timeout | liveSrc => rfl

theorem agreeOn_applyRow {u : UnitId} (row : UnitRow) (hduty : e ≠ .duty u) (hdutyV : e ≠ .dutyV u) :
    agreeOn s (applyRow u row s) e := by
  cases e with
  | duty v => exact (applyRow_duty_of_ne (fun hv => hduty (congrArg _ hv)) row s).symm
  | dutyV v => exact (applyRow_dutyV_of_ne (fun hv => hdutyV (congrArg _ hv)) row s).symm
  | ch | cmd | idx | last | lastV | statusLive | now | fsd | timeout | liveSrc => rfl

theorem agreeOn_latchStatus (g : Bool) (hstatus : e ≠ .statusLive) : agreeOn s (latchStatus g s) e := by
  cases e with
  | statusLive => exact absurd rfl hstatus
  | ch | cmd | idx | last | lastV | duty | dutyV | now | fsd | timeout | liveSrc => rfl

theorem agreeOn_advanceTime (dt : BitVec 28) (hnow : e ≠ .now) : agreeOn s (advanceTime dt s) e := by
  cases e with
  | now => exact absurd rfl hnow
  | ch | cmd | idx | last | lastV | statusLive | duty | dutyV | fsd | timeout | liveSrc => rfl

theorem agreeOn_clearBlock (h : isConfiguration e = true ∨ e = .now) : agreeOn s (clearBlock s) e := by
  cases e with
  | now | fsd | timeout | liveSrc => rfl
  | ch | cmd | idx | last | lastV | statusLive | duty | dutyV => simp [isConfiguration] at h

end Frame

/-- The column "May write" of R213. -/
theorem exec_agreeOn_of_not_mayWrite {i : Instr} {s t : State} {e : Element} (hexec : exec i s = .next t)
    (hwrite : mayWrite (agentOf i) e = false) : agreeOn s t e := by
  obtain ⟨l, w, rfl, -, rfl⟩ | ⟨l, w, rfl, -, rfl⟩ | ⟨v, rfl, rfl⟩ | ⟨u, rfl, rfl⟩ | ⟨rfl, rfl⟩ | ⟨rfl, rfl⟩ |
    ⟨rfl, rfl⟩ | ⟨dt, rfl, rfl⟩ | ⟨r, rfl, rfl⟩ | ⟨rfl, rfl⟩ := exec_cases hexec
  all_goals
    simp only [mayWrite, agentOf, decide_eq_false_iff_not, List.mem_cons, List.not_mem_nil, not_or, or_false] at hwrite
  · obtain ⟨hch, hidx, hlast, hlastV⟩ := hwrite
    exact (agreeOn_storeAtCursor s w hch hidx).trans (agreeOn_refreshLiveness _ hlast hlastV)
  · obtain ⟨-, hidx, hlast, hlastV⟩ := hwrite
    exact (agreeOn_resyncCursor s hidx).trans (agreeOn_refreshLiveness _ hlast hlastV)
  · obtain ⟨hcmd, hlast, hlastV⟩ := hwrite
    exact (agreeOn_storeCommand s v hcmd).trans (agreeOn_refreshLiveness _ hlast hlastV)
  · obtain ⟨hduty, hdutyV⟩ := hwrite
    exact (agreeOn_applyRow s _ hduty hdutyV).trans (agreeOn_emit _ _)
  · exact (agreeOn_latchStatus s _ hwrite).trans (agreeOn_emit _ _)
  · exact agreeOn_emit s _
  · exact agreeOn_refl _
  · exact agreeOn_advanceTime s dt hwrite
  · exact agreeOn_emit s _
  · refine agreeOn_clearBlock s ?_
    by_contra hmutable
    simp [not_or.mp hmutable] at hwrite

/-! ### What an operation reads -/

/-- Two states agree on the column "May read" of an agent, for the LIVE_SRC of the first. -/
def AgreeOnReads (a : Agent) (s₁ s₂ : State) : Prop :=
  ∀ e : Element, mayRead s₁.liveSrc a e = true → agreeOn s₁ s₂ e

section Reads

variable {s₁ s₂ : State}

theorem liveArray_congr (hsrc : s₁.liveSrc = s₂.liveSrc) (hlive : agreeOn s₁ s₂ (liveElement s₁.liveSrc)) :
    liveArray s₁ = liveArray s₂ := by
  cases hs : s₁.liveSrc with
  | cmd =>
    rw [hs] at hlive
    have hcmd : s₁.cmd = s₂.cmd := hlive
    simp only [liveArray, ← hsrc, hs, hcmd]
  | dec =>
    rw [hs] at hlive
    have hch : s₁.ch = s₂.ch := hlive
    simp only [liveArray, ← hsrc, hs, hch]

/-- The row that a TICK applies is made from what its timer may read (R142, R213). -/
theorem sourceRow_gate_congr {u : UnitId} (h : AgreeOnReads (.outputTimer u) s₁ s₂) :
    sourceRow s₁ (gate s₁) u = sourceRow s₂ (gate s₂) u := by
  have hgate : gate s₁ = gate s₂ := gate_congr (h .lastV rfl) (h .now rfl) (h .last rfl) (h .timeout rfl)
  have hlive : liveArray s₁ = liveArray s₂ := liveArray_congr (h .liveSrc rfl) (h _ (by simp [mayRead]))
  rw [hgate, sourceRow_congr _ u hlive (h .fsd rfl)]

/-- The gate that SUPV latches is made from what the supervisor may read (R122, R213). -/
theorem supervisor_gate_congr (h : AgreeOnReads .supervisor s₁ s₂) : gate s₁ = gate s₂ :=
  gate_congr (h .lastV rfl) (h .now rfl) (h .last rfl) (h .timeout rfl)

theorem regValue_congr (h : ∀ e, agreeOn s₁ s₂ e) (n : RegName) : regValue s₁ n = regValue s₂ n := by
  cases n with
  | ch i => exact congrArg (fun ch : Frame => ch[i].setWidth 32) (h .ch)
  | cmd i => exact congrArg (fun cmd : Frame => cmd[i].setWidth 32) (h .cmd)
  | fsd l => exact congrArg (fun fsd : ChannelTable => fsd[l].setWidth 32) (h .fsd)
  | duty u k => exact congrArg (fun row : UnitRow => row[k].setWidth 32) (h (.duty u))
  | idx => exact congrArg (fun idx : FrameIndex => BitVec.ofNat 32 idx.val) (h .idx)
  | last => exact h .last
  | now => exact h .now
  | timeout => exact h .timeout
  | params | map => rfl
  | status =>
    have hgate : gate s₁ = gate s₂ := gate_congr (h .lastV) (h .now) (h .last) (h .timeout)
    have hbits : statusBits s₁ = statusBits s₂ := by
      simp only [statusBits, hgate, show s₁.statusLive = s₂.statusLive from h .statusLive,
        show s₁.lastV = s₂.lastV from h .lastV, show s₁.liveSrc = s₂.liveSrc from h .liveSrc,
        show s₁.dutyV[0] = s₂.dutyV[0] from h (.dutyV 0), show s₁.dutyV[1] = s₂.dutyV[1] from h (.dutyV 1),
        show s₁.dutyV[2] = s₂.dutyV[2] from h (.dutyV 2)]
    exact BitVec.eq_of_getLsbD_eq fun j _ => by simp only [regValue, statusWord_getLsbD, hbits]

theorem readPort_congr (h : ∀ e, agreeOn s₁ s₂ e) (r : BitVec 8) : readPort s₁ r = readPort s₂ r := by
  unfold readPort
  split
  · exact regValue_congr h _
  · rfl

/-! ### What an operation emits (R13) -/

/-- The output list of an operation (R13), from the state before it. -/
def emissionsOf : Instr → State → List Emission
  | .tick u, s => dutyEmissions u (sourceRow s (gate s) u)
  | .supv, s => [.status (gate s)]
  | .pub buf, s => if buf then [.pub s.ch] else []
  | .rd r, s => [.rdata (readPort s r)]
  | .edge _ _, _ | .cmd _, _ | .time _, _ | .rst, _ => []

theorem exec_emitted {i : Instr} {s t : State} (h : exec i s = .next t) : t.emitted = s.emitted ++ emissionsOf i s := by
  obtain ⟨l, w, rfl, -, rfl⟩ | ⟨l, w, rfl, -, rfl⟩ | ⟨v, rfl, rfl⟩ | ⟨u, rfl, rfl⟩ | ⟨rfl, rfl⟩ | ⟨rfl, rfl⟩ |
    ⟨rfl, rfl⟩ | ⟨dt, rfl, rfl⟩ | ⟨r, rfl, rfl⟩ | ⟨rfl, rfl⟩ := exec_cases h
  all_goals simp [emissionsOf]

theorem emissionsOf_congr (i : Instr) (h : AgreeOnReads (agentOf i) s₁ s₂) : emissionsOf i s₁ = emissionsOf i s₂ := by
  cases i with
  | edge | cmd | time | rst => rfl
  | tick u => exact congrArg (dutyEmissions u) (sourceRow_gate_congr h)
  | supv => rw [emissionsOf, emissionsOf, supervisor_gate_congr h]
  | pub buf => rw [emissionsOf, emissionsOf, show s₁.ch = s₂.ch from h .ch rfl]
  | rd r => rw [emissionsOf, emissionsOf, readPort_congr (fun e => h e rfl) r]

/-! ### What a named operation writes -/

section Writes

variable {e : Element} (h : agreeOn s₁ s₂ e)
include h

theorem agreeOn.emit (es es' : List Emission) : agreeOn (emit es s₁) (emit es' s₂) e := by
  cases e <;> exact h

theorem agreeOn.refreshLiveness (hnow : s₁.now = s₂.now) : agreeOn (refreshLiveness s₁) (refreshLiveness s₂) e := by
  cases e with
  | last => exact hnow
  | lastV => rfl
  | ch | cmd | idx | statusLive | duty | dutyV | now | fsd | timeout | liveSrc => exact h

/-- The entries of CH that the store leaves are the old ones. -/
theorem agreeOn.storeAtCursor (w : PulseWidth) (hidx : s₁.idx = s₂.idx) :
    agreeOn (storeAtCursor w s₁) (storeAtCursor w s₂) e := by
  cases e with
  | ch =>
    have hch : s₁.ch = s₂.ch := h
    simp only [agreeOn, storeAtCursor_ch, hch, hidx]
  | idx => exact congrArg nextCursor hidx
  | cmd | last | lastV | statusLive | duty | dutyV | now | fsd | timeout | liveSrc => exact h

theorem agreeOn.resyncCursor : agreeOn (resyncCursor s₁) (resyncCursor s₂) e := by
  cases e with
  | idx => rfl
  | ch | cmd | last | lastV | statusLive | duty | dutyV | now | fsd | timeout | liveSrc => exact h

theorem agreeOn.storeCommand (v : Frame) : agreeOn (storeCommand v s₁) (storeCommand v s₂) e := by
  cases e with
  | cmd => rfl
  | ch | idx | last | lastV | statusLive | duty | dutyV | now | fsd | timeout | liveSrc => exact h

theorem agreeOn.applyRow (u : UnitId) (row : UnitRow) : agreeOn (applyRow u row s₁) (applyRow u row s₂) e := by
  cases e with
  | duty v =>
    obtain rfl | hne := eq_or_ne v u
    · exact (applyRow_duty_self ..).trans (applyRow_duty_self ..).symm
    · exact (applyRow_duty_of_ne hne ..).trans (h.trans (applyRow_duty_of_ne hne ..).symm)
  | dutyV v =>
    obtain rfl | hne := eq_or_ne v u
    · exact (applyRow_dutyV_self ..).trans (applyRow_dutyV_self ..).symm
    · exact (applyRow_dutyV_of_ne hne ..).trans (h.trans (applyRow_dutyV_of_ne hne ..).symm)
  | ch | cmd | idx | last | lastV | statusLive | now | fsd | timeout | liveSrc => exact h

theorem agreeOn.latchStatus (g : Bool) : agreeOn (latchStatus g s₁) (latchStatus g s₂) e := by
  cases e with
  | statusLive => rfl
  | ch | cmd | idx | last | lastV | duty | dutyV | now | fsd | timeout | liveSrc => exact h

theorem agreeOn.advanceTime (dt : BitVec 28) : agreeOn (advanceTime dt s₁) (advanceTime dt s₂) e := by
  cases e with
  | now => exact congrArg (· + dt.setWidth 32) h
  | ch | cmd | idx | last | lastV | statusLive | duty | dutyV | fsd | timeout | liveSrc => exact h

theorem agreeOn.clearBlock : agreeOn (clearBlock s₁) (clearBlock s₂) e := by
  cases e with
  | ch | cmd | idx | last | lastV | statusLive | duty | dutyV => rfl
  | now | fsd | timeout | liveSrc => exact h

end Writes

/-- The new value of an element is made from the agent's column "May read" of R213 and from the element's old value. -/
theorem exec_agreeOn {i : Instr} {t₁ t₂ : State} {e : Element} (h₁ : exec i s₁ = .next t₁) (h₂ : exec i s₂ = .next t₂)
    (hread : AgreeOnReads (agentOf i) s₁ s₂) (hold : agreeOn s₁ s₂ e) : agreeOn t₁ t₂ e := by
  cases i with
  | edge line width =>
    have hnow : s₁.now = s₂.now := hread .now rfl
    have hidx : s₁.idx = s₂.idx := hread .idx rfl
    cases hw : inBand width with
    | true =>
      rw [exec_edge_inBand line _ hw] at h₁ h₂
      cases h₁
      cases h₂
      exact (hold.storeAtCursor width hidx).refreshLiveness hnow
    | false =>
      rw [exec_edge_outOfBand line _ hw] at h₁ h₂
      cases h₁
      cases h₂
      exact hold.resyncCursor.refreshLiveness hnow
  | cmd v =>
    cases h₁
    cases h₂
    have hnow : s₁.now = s₂.now := hread .now rfl
    exact (hold.storeCommand v).refreshLiveness hnow
  | tick u =>
    rw [exec_tick, sourceRow_gate_congr hread] at h₁
    cases h₁
    cases h₂
    exact (hold.applyRow u _).emit _ _
  | supv =>
    rw [exec_supv, supervisor_gate_congr hread] at h₁
    cases h₁
    cases h₂
    exact (hold.latchStatus _).emit _ _
  | pub buf =>
    cases buf <;> cases h₁ <;> cases h₂
    · exact hold
    · exact hold.emit _ _
  | time dt => cases h₁; cases h₂; exact hold.advanceTime dt
  | rd r => cases h₁; cases h₂; exact hold.emit _ _
  | rst => cases h₁; cases h₂; exact hold.clearBlock

end Reads

end Sys2Proof.Machine

open Sys2Proof Sys2Proof.Machine

/-- Settles O40: an operation is made of named operations that leave alone what R213 does not let the agent write, and whose
new values, like the emissions, are made from what the two states agree on. -/
theorem agentsKeepToTheirRights : Obligations.AgentsKeepToTheirRights := by
  refine ⟨fun _ _ _ hexec _ => exec_agreeOn_of_not_mayWrite hexec,
    fun i s₁ s₂ t₁ t₂ h₁ h₂ hread => ⟨?emissions, fun _ => exec_agreeOn h₁ h₂ hread⟩⟩
  case emissions =>
    refine ⟨emissionsOf i s₁, exec_emitted h₁, ?_⟩
    rw [emissionsOf_congr i hread]
    exact exec_emitted h₂
end
